-- ==== Sys2Proof/Word.lean ====
section
/-! DEFINITION. The widths the CF412's wire and counters use. -/

namespace Sys2Proof

/-- One byte on the line, in a buffer or in a record image. -/
abbrev Byte := BitVec 8

/-- A two-byte field of a request payload, sent high byte first (R204). -/
abbrev Word16 := BitVec 16

/-- A 32-bit counter (R17, R19). -/
abbrev Counter := BitVec 32

/-- A stream id, 0 to 4095 (R3). -/
abbrev StreamId := BitVec 12

/-- One of the 160 buffers of the pool (R117). -/
abbrev BufId := Fin 160

end Sys2Proof
end

