-- ==== Sys2Proof/Config.lean ====
section
/-! DEFINITION. What the part fixes: capacities, ranges, default settings and its identity.
The spec leaves no result value open, so there is no free value here. -/

namespace Sys2Proof.Config

/-- Capacity of a port's cyclic queue (R120). -/
def cyclicCapacity : Nat := 32
/-- Capacity of a port's acyclic queue (R120). -/
def acyclicCapacity : Nat := 64
/-- Capacity of the divert queue (R58, R120). -/
def divertCapacity : Nat := 16
/-- Capacity of the response queue (R120, R122). -/
def responseCapacity : Nat := 8
/-- Capacity of the lapse list (R110). -/
def lapseCapacity : Nat := 32
/-- Most indices one READ-LAPSES returns (R113). -/
def lapsesPerRead : Nat := 8
/-- Bytes a buffer holds between SOF and EOF (R3, R13). -/
def maxFrameBytes : Nat := 247
/-- Largest length field of an intact frame (R3, R14). -/
def maxPayload : Nat := 240
/-- Byte times of unbroken IDLE that bring a DOWN port UP (R8). -/
def upIdles : Nat := 100
/-- Payload bytes READ-DIVERTED returns at most (R58). -/
def divertedPayload : Nat := 224
/-- A LEARN entry whose new last capture is below this speeds up (R74). -/
def speedUpBelow : Nat := 85

/-- Vendor code (R175). -/
def vendorCode : Word16 := 0x2E71#16
/-- Part code (R175). -/
def partCode : Word16 := 0x0412#16
/-- Revision (R175). -/
def revision : Byte := 0x03#8
/-- Table size (R175). -/
def tableSize : Word16 := 0x0100#16
/-- Buffer pool size (R175). -/
def poolSize : Byte := 0xA0#8

/-- Management stream id at cold reset (R38). -/
def coldMgmtId : StreamId := 4095#12

end Sys2Proof.Config
end

