-- ==== Sys2Proof/Syntax.lean ====
section
/-! DEFINITION. The commands: one constructor of `Instr` per row of the opcode table, and the
management requests' payloads as their fields stand on the wire (R206). -/

namespace Sys2Proof

/-- The two link ports. -/
inductive Port where
  | N
  | S
  deriving DecidableEq, Repr

/-- The opposite port. -/
def Port.opp : Port → Port
  | .N => .S
  | .S => .N

/-- The 16 bytes of an entry record as sent (R206); the stream id is its one two-byte field. -/
structure EntryRecord where
  keyPort : Byte
  streamId : Word16
  action : Byte
  cls : Byte
  group : Byte
  seqCheck : Byte
  cadenceMode : Byte
  armFlag : Byte
  exponent : Byte
  seed : Byte
  weight : Byte
  basis : Byte
  fixedDeadline : Byte
  missLimit : Byte
  gapPolicy : Byte
  deriving DecidableEq, Repr

/-- The 7 bytes of a tune record as sent: the given mask and six fields (R206). -/
structure TuneRecord where
  mask : Byte
  weight : Byte
  basis : Byte
  missLimit : Byte
  gapPolicy : Byte
  mode : Byte
  fixedDeadline : Byte
  deriving DecidableEq, Repr

/-- The arguments of SET-PORT as sent (R206). -/
structure PortArgs where
  port : Byte
  missPolicy : Byte
  upper : Byte
  lower : Byte
  pauseRepeat : Byte
  holdTimeout : Byte
  escalation : Byte
  deriving DecidableEq, Repr

/-- A management request with a known code and the right length (R206), its arguments untested. -/
inductive Command where
  | identify
  | readStatus
  | readAlerts
  | ackEvent
  | setMode (mode : Byte)
  | setPort (args : PortArgs)
  | setAlerts (enables : Byte)
  | setIdent (streamId : Word16)
  | setGate (group setting : Byte)
  | setLock (lock : Byte)
  | sendLineReset (port : Byte)
  | writeEntry (index : Byte) (record : EntryRecord)
  | readEntry (index : Byte)
  | freeEntry (index : Byte)
  | armEntry (index : Byte)
  | suspendEntry (index : Byte)
  | tuneEntry (index : Byte) (record : TuneRecord)
  | stepScale (index direction : Byte)
  | findEntry (port : Byte) (streamId : Word16)
  | readCounters (kind target clear : Byte)
  | bulkLoad (start : Word16) (count : Byte)
  | loadData (record : EntryRecord)
  | readLapses
  | readDiverted
  | abort
  | halt
  | resetWarm
  deriving DecidableEq, Repr

/-- What puts the part into cold reset (R203). -/
inductive ColdCause where
  | powerUp
  | resetInput
  deriving DecidableEq, Repr

/-- The commands the part is sent: one constructor per row of the opcode table.
A request command's first operand is the request's tag. -/
inductive Instr where
  | sof (p : Port)
  | dataByte (p : Port) (b : Byte)
  | eof (p : Port)
  | abortReceived (p : Port)
  | holdTimerExpiry (p : Port)
  | lineReset (p : Port)
  | portDown (p : Port)
  | portUp (p : Port)
  | breakEnd
  | tickExpiry (index : Byte)
  | lapse (index : Byte)
  | spacingEnd (p : Port)
  | transmissionStart (p : Port)
  | transmissionComplete (p : Port)
  | commandCompletion
  | badCommand (tag : Byte) (payload : List Byte)
  | identify (tag : Byte)
  | readStatus (tag : Byte)
  | readAlerts (tag : Byte)
  | ackEvent (tag : Byte)
  | setMode (tag mode : Byte)
  | setPort (tag : Byte) (args : PortArgs)
  | setAlerts (tag enables : Byte)
  | writeEntry (tag index : Byte) (record : EntryRecord)
  | readEntry (tag index : Byte)
  | freeEntry (tag index : Byte)
  | armEntry (tag index : Byte)
  | suspendEntry (tag index : Byte)
  | tuneEntry (tag index : Byte) (record : TuneRecord)
  | stepScale (tag index direction : Byte)
  | findEntry (tag port : Byte) (streamId : Word16)
  | readCounters (tag kind target clear : Byte)
  | bulkLoad (tag : Byte) (start : Word16) (count : Byte)
  | loadData (tag : Byte) (record : EntryRecord)
  | gapTimerExpiry
  | readLapses (tag : Byte)
  | readDiverted (tag : Byte)
  | setGate (tag group setting : Byte)
  | setLock (tag lock : Byte)
  | setIdent (tag : Byte) (streamId : Word16)
  | sendLineReset (tag port : Byte)
  | abort (tag : Byte)
  | halt (tag : Byte)
  | resetWarm (tag : Byte)
  | escalation
  | freezeAsserted
  | freezeDeasserted
  | coldReset (cause : ColdCause)
  | resetDeasserted
  | powerUpStart
  | idleReceived (p : Port)
  deriving DecidableEq, Repr

end Sys2Proof
end

