-- ==== Sys2Proof/Decode.lean ====
section
/-! DEFINITION. Management request payloads: reading a payload into a command, and writing a command
as a payload (R206). The opcode table itself gives no row any bits, so `decodeTableWord` reads none. -/

namespace Sys2Proof

/-- The row a word of the opcode table spells. The table gives no row any bits, so none does. -/
def decodeTableWord (_nbits _w : Nat) : Option Instr := none

/-- The two bytes of a 16-bit field, high byte first (R204). -/
def be16 (w : Word16) : List Byte := [w.extractLsb' 8 8, w.extractLsb' 0 8]

/-- The four bytes of a 32-bit field, high byte first (R204). -/
def be32 (w : Counter) : List Byte :=
  [w.extractLsb' 24 8, w.extractLsb' 16 8, w.extractLsb' 8 8, w.extractLsb' 0 8]

/-- The command code of a request (R206). -/
def Command.code : Command → Byte
  | .identify => 0x01#8
  | .readStatus => 0x02#8
  | .readAlerts => 0x03#8
  | .ackEvent => 0x04#8
  | .setMode _ => 0x05#8
  | .setPort _ => 0x06#8
  | .setAlerts _ => 0x07#8
  | .setIdent _ => 0x08#8
  | .setGate _ _ => 0x09#8
  | .setLock _ => 0x0A#8
  | .sendLineReset _ => 0x0B#8
  | .writeEntry _ _ => 0x10#8
  | .readEntry _ => 0x11#8
  | .freeEntry _ => 0x12#8
  | .armEntry _ => 0x13#8
  | .suspendEntry _ => 0x14#8
  | .tuneEntry _ _ => 0x15#8
  | .stepScale _ _ => 0x16#8
  | .findEntry _ _ => 0x17#8
  | .readCounters _ _ _ => 0x18#8
  | .bulkLoad _ _ => 0x20#8
  | .loadData _ => 0x21#8
  | .readLapses => 0x22#8
  | .readDiverted => 0x23#8
  | .abort => 0x30#8
  | .halt => 0x31#8
  | .resetWarm => 0x32#8

/-- The payload length R206 gives for each code; none for a code that names no command. -/
def requestLength (code : Byte) : Option Nat :=
  match code.toNat with
  | 0x01 => some 1
  | 0x02 => some 1
  | 0x03 => some 1
  | 0x04 => some 1
  | 0x05 => some 2
  | 0x06 => some 8
  | 0x07 => some 2
  | 0x08 => some 3
  | 0x09 => some 3
  | 0x0A => some 2
  | 0x0B => some 2
  | 0x10 => some 18
  | 0x11 => some 2
  | 0x12 => some 2
  | 0x13 => some 2
  | 0x14 => some 2
  | 0x15 => some 9
  | 0x16 => some 3
  | 0x17 => some 4
  | 0x18 => some 4
  | 0x20 => some 4
  | 0x21 => some 17
  | 0x22 => some 1
  | 0x23 => some 1
  | 0x30 => some 1
  | 0x31 => some 1
  | 0x32 => some 1
  | _ => none

/-- The 16 bytes of an entry record (R206). -/
def EntryRecord.bytes (r : EntryRecord) : List Byte :=
  [r.keyPort] ++ be16 r.streamId ++
    [r.action, r.cls, r.group, r.seqCheck, r.cadenceMode, r.armFlag, r.exponent, r.seed, r.weight,
      r.basis, r.fixedDeadline, r.missLimit, r.gapPolicy]

/-- The 7 bytes of a tune record (R206). -/
def TuneRecord.bytes (r : TuneRecord) : List Byte :=
  [r.mask, r.weight, r.basis, r.missLimit, r.gapPolicy, r.mode, r.fixedDeadline]

/-- The argument bytes of SET-PORT (R206). -/
def PortArgs.bytes (a : PortArgs) : List Byte :=
  [a.port, a.missPolicy, a.upper, a.lower, a.pauseRepeat, a.holdTimeout, a.escalation]

/-- A request's argument bytes, after its code (R206). -/
def Command.args : Command → List Byte
  | .identify => []
  | .readStatus => []
  | .readAlerts => []
  | .ackEvent => []
  | .setMode m => [m]
  | .setPort a => a.bytes
  | .setAlerts e => [e]
  | .setIdent i => be16 i
  | .setGate g o => [g, o]
  | .setLock l => [l]
  | .sendLineReset p => [p]
  | .writeEntry i r => i :: r.bytes
  | .readEntry i => [i]
  | .freeEntry i => [i]
  | .armEntry i => [i]
  | .suspendEntry i => [i]
  | .tuneEntry i r => i :: r.bytes
  | .stepScale i d => [i, d]
  | .findEntry p i => p :: be16 i
  | .readCounters k t c => [k, t, c]
  | .bulkLoad st n => be16 st ++ [n]
  | .loadData r => r.bytes
  | .readLapses => []
  | .readDiverted => []
  | .abort => []
  | .halt => []
  | .resetWarm => []

/-- A request's payload: its code and its arguments (R206). -/
def Command.payload (c : Command) : List Byte := c.code :: c.args

/-- An entry record from its 16 bytes. -/
def parseEntryRecord : List Byte → Option EntryRecord
  | [kp, ih, il, ac, cl, gr, sc, cm, af, ex, se, we, ba, fd, ml, gp] =>
    some ⟨kp, ih ++ il, ac, cl, gr, sc, cm, af, ex, se, we, ba, fd, ml, gp⟩
  | _ => none

/-- A tune record from its 7 bytes. -/
def parseTuneRecord : List Byte → Option TuneRecord
  | [ma, we, ba, ml, gp, mo, fd] => some ⟨ma, we, ba, ml, gp, mo, fd⟩
  | _ => none

/-- The command a code and its argument bytes spell; none where the code names no command or the
length is not the code's (R151 step 1). -/
def parseArgs (code : Nat) (args : List Byte) : Option Command :=
  match code, args with
  | 0x01, [] => some .identify
  | 0x02, [] => some .readStatus
  | 0x03, [] => some .readAlerts
  | 0x04, [] => some .ackEvent
  | 0x05, [m] => some (.setMode m)
  | 0x06, [po, mi, up, lo, re, ho, es] => some (.setPort ⟨po, mi, up, lo, re, ho, es⟩)
  | 0x07, [e] => some (.setAlerts e)
  | 0x08, [ih, il] => some (.setIdent (ih ++ il))
  | 0x09, [g, o] => some (.setGate g o)
  | 0x0A, [l] => some (.setLock l)
  | 0x0B, [p] => some (.sendLineReset p)
  | 0x10, i :: rest => (parseEntryRecord rest).map (.writeEntry i)
  | 0x11, [i] => some (.readEntry i)
  | 0x12, [i] => some (.freeEntry i)
  | 0x13, [i] => some (.armEntry i)
  | 0x14, [i] => some (.suspendEntry i)
  | 0x15, i :: rest => (parseTuneRecord rest).map (.tuneEntry i)
  | 0x16, [i, d] => some (.stepScale i d)
  | 0x17, [p, ih, il] => some (.findEntry p (ih ++ il))
  | 0x18, [k, t, c] => some (.readCounters k t c)
  | 0x20, [sh, sl, n] => some (.bulkLoad (sh ++ sl) n)
  | 0x21, rest => (parseEntryRecord rest).map .loadData
  | 0x22, [] => some .readLapses
  | 0x23, [] => some .readDiverted
  | 0x30, [] => some .abort
  | 0x31, [] => some .halt
  | 0x32, [] => some .resetWarm
  | _, _ => none

/-- The command a request payload spells (R151 step 1, R206). -/
def parseCommand : List Byte → Option Command
  | [] => none
  | c :: args => parseArgs c.toNat args

end Sys2Proof
end

