-- ==== Sys2Proof/Machine/State.lean ====
section
/-! DEFINITION. The state of the CF412 as plain data: every piece of state the spec names, the two
outcomes besides a next state, and the state after reset. -/

namespace Sys2Proof.Machine

/-! ### Entries and trackers -/

/-- The states of a written entry (R18, section 2.3). A FREE entry is an absent one. -/
inductive EntryState where
  | suspended
  | armed
  | tracking
  | overdue
  | lapsed
  deriving DecidableEq, Repr

/-- What the classifier does with an entry's frames (R18, R52 to R54). -/
inductive Action where
  | forward
  | drop
  | divert
  deriving DecidableEq, Repr

/-- The class that chooses an entry's egress queue (R18, R52). -/
inductive StreamClass where
  | cyclic
  | acyclic
  deriving DecidableEq, Repr

/-- The mode of a tracker (R61). An entry whose cadence mode is OFF has no tracker. -/
inductive TrackMode where
  | fixed
  | learn
  deriving DecidableEq, Repr

/-- Which capture feeds the learned deadline (R61, R67). -/
inductive Basis where
  | last
  | previous
  deriving DecidableEq, Repr

/-- Whether a lapse sends a gap marker (R61, R103). -/
inductive GapPolicy where
  | mark
  | silent
  deriving DecidableEq, Repr

/-- Tuning values: each field given or absent (R85). A preload is one with a field given (R88). -/
structure Tune where
  weight : Option Nat
  basis : Option Basis
  missLimit : Option Nat
  gapPolicy : Option GapPolicy
  mode : Option TrackMode
  fixedDeadline : Option Nat
  deriving DecidableEq, Repr

/-- The cadence part of an entry (R61). -/
structure Tracker where
  mode : TrackMode
  baseExp : Nat
  seed : Nat
  weight : Nat
  basis : Basis
  fixedDeadline : Nat
  missLimit : Nat
  gapPolicy : GapPolicy
  exp : Nat
  elapsed : Nat
  last : Nat
  prev : Nat
  deadline : Nat
  overflow : Bool
  misses : Nat
  scaleUp : Bool
  scaleDown : Bool
  scaleLimit : Bool
  preload : Option Tune
  deriving DecidableEq, Repr

/-- The seven counters of an entry (R19). -/
structure EntryCounters where
  passed : Counter
  dropped : Counter
  duplicates : Counter
  slips : Counter
  misses : Counter
  lapses : Counter
  markersLost : Counter
  deriving DecidableEq, Repr

/-- All seven counters at 0. -/
def EntryCounters.zero : EntryCounters := ⟨0, 0, 0, 0, 0, 0, 0⟩

/-- A written entry (R18). The cadence mode is OFF exactly when `tracker` is none. -/
structure Entry where
  state : EntryState
  keyPort : Port
  streamId : StreamId
  action : Action
  cls : StreamClass
  group : Fin 8
  seqCheck : Bool
  expSeq : Option Byte
  tracker : Option Tracker
  counters : EntryCounters
  deriving DecidableEq, Repr

/-- A group's gate (R31). -/
inductive Gate where
  | opened
  | closed
  deriving DecidableEq, Repr

/-! ### Descriptors, slots and transmitters -/

/-- The fields of a MARKER descriptor (R103, R121). -/
structure Marker where
  index : Byte
  streamId : StreamId
  seq : Byte
  missNumber : Nat
  deriving DecidableEq, Repr

/-- A descriptor of a cyclic queue (R121). -/
inductive Descr where
  | frame (buf : BufId)
  | marker (m : Marker)
  deriving DecidableEq, Repr

/-- A descriptor of the divert queue: buffer, ingress port, and the entry index of a hit (R54, R57). -/
structure DivertDescr where
  buf : BufId
  ingress : Port
  entry : Option Byte
  deriving DecidableEq, Repr

/-- The frame a control slot holds (R142). -/
inductive Control where
  | pause
  | resume
  deriving DecidableEq, Repr

/-- The status of a response (R156). -/
inductive Status where
  | done
  | loaded
  | empty
  | busy
  | held
  | badCommand
  | badArgument
  | locked
  | duplicateKey
  | entryState
  | notLoading
  | aborted
  | timeout
  | frozen
  deriving DecidableEq, Repr

/-- A MGMT_RSP frame before it is laid out (R155). -/
structure Response where
  streamId : StreamId
  tag : Byte
  code : Byte
  status : Status
  step : Nat
  data : List Byte
  deriving DecidableEq, Repr

/-- A set of the six alert causes (R190). -/
structure CauseSet where
  linkEvent : Bool
  frozen : Bool
  poolExhausted : Bool
  lapse : Bool
  holdExpired : Bool
  diverted : Bool
  deriving DecidableEq, Repr

/-- The frame in the alert slot (R193). `highest` is a priority number, 0 for none (R204). -/
structure Alert where
  streamId : StreamId
  number : Byte
  highest : Nat
  pending : CauseSet
  deriving DecidableEq, Repr

/-- What a transmitter is sending, by the source it came from (R126, R127). -/
inductive Outgoing where
  | control (k : Control)
  | response (r : Response)
  | alert (a : Alert)
  | cyclic (d : Descr)
  | acyclic (buf : BufId)
  deriving DecidableEq, Repr

/-- How the transmitter came into SPACING: after an EOF, after an ABORT, or after a break
(R124, R129). -/
inductive FrameEnd where
  | eof
  | abort
  | brk
  deriving DecidableEq, Repr

/-- The four states of a transmitter (R124). -/
inductive Tx where
  | ready
  | sending (o : Outgoing)
  | spacing (after : FrameEnd)
  | brk
  deriving DecidableEq, Repr

/-! ### Ports -/

/-- The four states of a receiver (R11). The port is DOWN exactly in `off`. -/
inductive Receiver where
  | off
  | hunt
  | fill (buf : BufId)
  | skip
  deriving DecidableEq, Repr

/-- What becomes of a frame that finds no entry (R47). -/
inductive MissPolicy where
  | forward
  | drop
  | divert
  deriving DecidableEq, Repr

/-- Whether the part is pausing the senders on a port (R138). -/
inductive PauseState where
  | opened
  | paused
  deriving DecidableEq, Repr

/-- The settings SET-PORT writes for either port (R47, R136). -/
structure PortSettings where
  missPolicy : MissPolicy
  upper : Nat
  lower : Nat
  pauseRepeat : Nat
  holdTimeout : Nat
  deriving DecidableEq, Repr

/-- The defaults of R47 and R136. -/
def PortSettings.defaults : PortSettings := ⟨.forward, 48, 16, 8, 50⟩

/-- The thirteen counters of a port (R17, R60, R142, R146). -/
structure PortCounters where
  intact : Counter
  errored : Counter
  aborted : Counter
  noBuffer : Counter
  lineResets : Counter
  downEvents : Counter
  misses : Counter
  haltedDrops : Counter
  downDrops : Counter
  queueFull : Counter
  pausesSent : Counter
  resumesSent : Counter
  holdExpiries : Counter
  deriving DecidableEq, Repr

/-- All thirteen counters at 0. -/
def PortCounters.zero : PortCounters := ⟨0, 0, 0, 0, 0, 0, 0, 0, 0, 0, 0, 0, 0⟩

/-- Everything one port owns. -/
structure PortState where
  receiver : Receiver
  upCount : Nat
  breakTaken : Bool
  counters : PortCounters
  settings : PortSettings
  pauseState : PauseState
  resend : Nat
  held : Bool
  holdTimer : Option Nat
  controlSlot : Option Control
  cyclic : List Descr
  acyclic : List BufId
  tx : Tx
  deriving DecidableEq, Repr

/-- A port at cold reset (R8, R11, R17, R124, R149). -/
def PortState.cold : PortState where
  receiver := .off
  upCount := 0
  breakTaken := false
  counters := .zero
  settings := .defaults
  pauseState := .opened
  resend := 0
  held := false
  holdTimer := none
  controlSlot := none
  cyclic := []
  acyclic := []
  tx := .ready

/-! ### Management unit and mode -/

/-- A request record (R150); its command holds the code and the argument bytes. -/
structure Request where
  streamId : StreamId
  tag : Byte
  cmd : Command
  deriving DecidableEq, Repr

/-- What the executing slot holds past a command's arrival (R152): a bulk load in its load phase, or
a command whose built response waits for space. -/
inductive Executing where
  | loading (req : Request)
  | built (r : Response)
  deriving DecidableEq, Repr

/-- The last load result (R166). -/
structure LoadResult where
  status : Status
  step : Nat
  next : Nat
  deriving DecidableEq, Repr

/-- What the management unit holds (R152, R161, R164, R166, R171). -/
structure Mgmt where
  executing : Option Executing
  waiting : Option Request
  nextIndex : Nat
  remaining : Nat
  reload : Nat
  step : Nat
  lastLoad : Option LoadResult
  gapTimer : Bool
  heldEvent : Bool
  escTime : Nat
  escTimer : Option Nat
  escalated : Bool
  unanswered : Counter
  linkEvents : Counter
  deriving DecidableEq, Repr

/-- The management unit at cold reset (R173). -/
def Mgmt.cold : Mgmt where
  executing := none
  waiting := none
  nextIndex := 0
  remaining := 0
  reload := 256
  step := 0
  lastLoad := none
  gapTimer := false
  heldEvent := false
  escTime := 0
  escTimer := none
  escalated := false
  unanswered := 0
  linkEvents := 0

/-- Why the mode is HALTED (R198). -/
inductive HaltCause where
  | command
  | freeze
  deriving DecidableEq, Repr

/-- The run mode, with its cause in HALTED alone (R198). -/
inductive RunMode where
  | bypass
  | run
  | halted (cause : HaltCause)
  deriving DecidableEq, Repr

/-- The four held causes of the alert unit (R190). LAPSE and DIVERTED are read from their owners. -/
structure HeldCauses where
  linkEvent : Bool
  frozen : Bool
  poolExhausted : Bool
  holdExpired : Bool
  deriving DecidableEq, Repr

/-- No held cause pending. -/
def HeldCauses.clear : HeldCauses := ⟨false, false, false, false⟩

/-- The default enable set, LINK_EVENT and FROZEN (R192). -/
def CauseSet.defaultEnables : CauseSet := ⟨true, true, false, false, false, false⟩

/-! ### The whole state -/

/-- The state of the part, with the queue of commands that wait. -/
structure State where
  resetLow : Bool
  powered : Bool
  freezeLow : Bool
  mode : RunMode
  portN : PortState
  portS : PortState
  table : Vector (Option Entry) 256
  gates : Vector Gate 8
  groupLocks : Vector Bool 8
  configLock : Bool
  mgmtId : StreamId
  lapseList : List Byte
  lapseOverflow : Bool
  free : List BufId
  contents : Vector (List Byte) 160
  divert : List DivertDescr
  responses : List Response
  alertSlot : Option Alert
  mgmt : Mgmt
  causes : HeldCauses
  enables : CauseSet
  alertNumber : Byte
  pending : List Instr
  deriving DecidableEq, Repr

/-- Every buffer of the pool, in the order the model lists a full pool. -/
def allBuffers : List BufId := List.finRange 160

/-- The part at its cold-reset values, with the pins and the command queue given (R38, R115, R117,
R120, R123, R124, R149, R173, R197). The mode is BYPASS until the part starts (R203). -/
def State.cold (resetLow powered freezeLow : Bool) (pending : List Instr) : State where
  resetLow := resetLow
  powered := powered
  freezeLow := freezeLow
  mode := .bypass
  portN := .cold
  portS := .cold
  table := Vector.replicate 256 none
  gates := Vector.replicate 8 .opened
  groupLocks := Vector.replicate 8 false
  configLock := false
  mgmtId := Config.coldMgmtId
  lapseList := []
  lapseOverflow := false
  free := allBuffers
  contents := Vector.replicate 160 []
  divert := []
  responses := []
  alertSlot := none
  mgmt := .cold
  causes := .clear
  enables := .defaultEnables
  alertNumber := 0
  pending := pending

/-- The part right after a cold reset that ends with the supply good and both pins deasserted (R203):
the levels of the pins are the model's choice, assumption log 7. -/
def State.reset : State := State.cold false true false []

/-- Nothing the spec describes stops the part, so the model has no fault. -/
inductive Fault where
  deriving DecidableEq, Repr

/-- Why a command has no meaning. -/
inductive Refusal where
  /-- Raised by an arm of `exec` for a command not modelled yet, named as the opcode table names it.
  Safe: no claim about a next state can be proved of it. No arm raises it now. -/
  | notModelled (mnemonic : String)
  deriving DecidableEq, Repr

/-- What a command answers. -/
abbrev Out := Host.Outcome State Fault Refusal

end Sys2Proof.Machine
end

