-- ==== Sys2Proof/Machine/Frame.lean ====
section
/-! DEFINITION. Frames between SOF and EOF: the header, the check, the test at EOF, and the bytes each
transmitted frame has on the line (R2 to R5, R14, R204, R205, R207). -/

namespace Sys2Proof.Machine

/-- The seven kinds (R4). -/
inductive Kind where
  | data
  | marker
  | pause
  | resume
  | mgmtReq
  | mgmtRsp
  | alert
  deriving DecidableEq, Repr

/-- The kind a header code names; none for 0h and 8h to Fh (R4). -/
def Kind.ofCode : Nat → Option Kind
  | 1 => some .data
  | 2 => some .marker
  | 3 => some .pause
  | 4 => some .resume
  | 5 => some .mgmtReq
  | 6 => some .mgmtRsp
  | 7 => some .alert
  | _ => none

/-- The code of a kind (R4). -/
def Kind.code : Kind → Nat
  | .data => 1
  | .marker => 2
  | .pause => 3
  | .resume => 4
  | .mgmtReq => 5
  | .mgmtRsp => 6
  | .alert => 7

/-- One bit of the check's register: shift, and subtract the polynomial when a one leaves (R5). -/
def crcBit (r : Word16) : Word16 :=
  if r.msb then (r <<< 1) ^^^ 0x1021#16 else r <<< 1

/-- `crcBit` taken `n` times. -/
def crcBits : Nat → Word16 → Word16
  | 0, r => r
  | n + 1, r => crcBits n (crcBit r)

/-- One byte into the check's register, most significant bit first (R5). -/
def crcByte (r : Word16) (b : Byte) : Word16 :=
  crcBits 8 (r ^^^ (b ++ (0 : Byte)))

/-- The check over a sequence of bytes, from FFFFh with no final inversion (R5). -/
def crc (bs : List Byte) : Word16 := bs.foldl crcByte 0xFFFF#16

/-- Bytes with their check behind them, high byte first (R5). -/
def withCheck (body : List Byte) : List Byte := body ++ be16 (crc body)

/-- An intact frame: kind, the lower 12 bits of the stream id field, seq and payload (R3). -/
structure Frame where
  kind : Kind
  streamId : StreamId
  seq : Byte
  payload : List Byte
  deriving DecidableEq, Repr

/-- Header and payload of a frame as the part sends them (R2, R204, R205). -/
def Frame.body (f : Frame) : List Byte :=
  [BitVec.ofNat 8 (16 * f.kind.code), (f.streamId.setWidth 16).extractLsb' 8 8,
    f.streamId.extractLsb' 0 8, f.seq, BitVec.ofNat 8 f.payload.length] ++ f.payload

/-- A frame's bytes between SOF and EOF (R2, R5). -/
def Frame.bytes (f : Frame) : List Byte := withCheck f.body

/-- The test at EOF (R14): the frame the stored bytes hold, or none when the frame is errored. -/
def parseFrame (bs : List Byte) : Option Frame :=
  match bs with
  | b0 :: b1 :: b2 :: sq :: ln :: rest =>
    match Kind.ofCode (b0.toNat / 16) with
    | none => none
    | some k =>
      if Config.maxPayload < ln.toNat then none
      else if rest.length ≠ ln.toNat + 2 then none
      else if withCheck (bs.take (bs.length - 2)) ≠ bs then none
      else some ⟨k, (b1 ++ b2).setWidth 12, sq, rest.take ln.toNat⟩
  | _ => none

/-- A stored frame as it leaves again: reserved bits and the upper stream id bits zero, the check made
afresh (R2, R121). -/
def resendBytes (bs : List Byte) : List Byte :=
  match bs.take (bs.length - 2) with
  | b0 :: b1 :: rest => withCheck ((b0 &&& 0xF0#8) :: (b1 &&& 0x0F#8) :: rest)
  | short => withCheck short

/-- The status codes (R207). -/
def Status.code : Status → Byte
  | .done => 0x00#8
  | .loaded => 0x01#8
  | .empty => 0x02#8
  | .busy => 0x10#8
  | .held => 0x11#8
  | .badCommand => 0x12#8
  | .badArgument => 0x13#8
  | .locked => 0x14#8
  | .duplicateKey => 0x15#8
  | .entryState => 0x16#8
  | .notLoading => 0x17#8
  | .aborted => 0x18#8
  | .timeout => 0x19#8
  | .frozen => 0x1A#8

/-- A Bool as bit `n` of a byte. -/
def bitAt (n : Nat) (b : Bool) : Byte := if b then 1#8 <<< n else 0#8

/-- A Bool as a byte 0 or 1. -/
def boolByte (b : Bool) : Byte := if b then 1#8 else 0#8

/-- A cause set as sent (R204). -/
def CauseSet.byte (c : CauseSet) : Byte :=
  bitAt 0 c.linkEvent ||| bitAt 1 c.frozen ||| bitAt 2 c.poolExhausted ||| bitAt 3 c.lapse |||
    bitAt 4 c.holdExpired ||| bitAt 5 c.diverted

/-- The MGMT_RSP frame of a response (R155, R207). A step of 256 goes out as 0. -/
def Response.frame (r : Response) : Frame :=
  ⟨.mgmtRsp, r.streamId, r.tag, [r.code, r.status.code, BitVec.ofNat 8 r.step, 0#8] ++ r.data⟩

/-- The MARKER frame of a marker descriptor (R105, R204). -/
def Marker.frame (m : Marker) : Frame :=
  ⟨.marker, m.streamId, m.seq, [BitVec.ofNat 8 m.missNumber, m.index]⟩

/-- The ALERT frame of the alert slot (R193, R204). -/
def Alert.frame (a : Alert) : Frame :=
  ⟨.alert, a.streamId, a.number, [BitVec.ofNat 8 a.highest, a.pending.byte]⟩

/-- The PAUSE or RESUME frame of a control slot (R142, R204). -/
def Control.frame : Control → Frame
  | .pause => ⟨.pause, 0, 0, []⟩
  | .resume => ⟨.resume, 0, 0, []⟩

/-- The bytes between SOF and EOF of what a transmitter sends (R2, R121). -/
def Outgoing.bytes (contents : Vector (List Byte) 160) : Outgoing → List Byte
  | .control k => k.frame.bytes
  | .response r => r.frame.bytes
  | .alert a => a.frame.bytes
  | .cyclic (.frame b) => resendBytes contents[b]
  | .cyclic (.marker m) => m.frame.bytes
  | .acyclic b => resendBytes contents[b]

end Sys2Proof.Machine
end

