-- ==== Sys2Proof/Machine/Flags.lean ====
section
/-! DEFINITION. Counters that saturate, and the alert unit: the pending set, the active set and the
ALERT raised when the active set becomes non-empty (R190 to R193). -/

namespace Sys2Proof.Machine

/-- A counter raised by one, staying at 4,294,967,295 once there (R17, R19). -/
def satInc (c : Counter) : Counter := if c = BitVec.allOnes 32 then c else c + 1

/-- The pending set: four held causes, and LAPSE and DIVERTED read from their owners (R190, R114,
R58). -/
def State.pendingCauses (s : State) : CauseSet where
  linkEvent := s.causes.linkEvent
  frozen := s.causes.frozen
  poolExhausted := s.causes.poolExhausted
  lapse := !s.lapseList.isEmpty || s.lapseOverflow
  holdExpired := s.causes.holdExpired
  diverted := !s.divert.isEmpty

/-- The highest pending cause by its priority number, 0 for none (R191, R204). -/
def CauseSet.highest (c : CauseSet) : Nat :=
  if c.linkEvent then 1
  else if c.frozen then 2
  else if c.poolExhausted then 3
  else if c.lapse then 4
  else if c.holdExpired then 5
  else if c.diverted then 6
  else 0

/-- Whether the active set, pending and enabled, holds a cause (R192). -/
def State.anyActive (s : State) : Bool :=
  let p := s.pendingCauses
  let e := s.enables
  (p.linkEvent && e.linkEvent) || (p.frozen && e.frozen) || (p.poolExhausted && e.poolExhausted) ||
    (p.lapse && e.lapse) || (p.holdExpired && e.holdExpired) || (p.diverted && e.diverted)

/-- An ALERT built and placed in the empty alert slot, the alert number raised by one (R193). -/
def State.placeAlert (s : State) : State :=
  match s.alertSlot with
  | some _ => s
  | none =>
    { s with
      alertSlot := some ⟨s.mgmtId, s.alertNumber + 1, s.pendingCauses.highest, s.pendingCauses⟩
      alertNumber := s.alertNumber + 1 }

/-- One claim that may change the pending set or the enable set, with the alert unit's comparison of
the active set before and after it (R193). -/
def State.alerting (s : State) (claim : State → State) : State :=
  if !s.anyActive && (claim s).anyActive then (claim s).placeAlert else claim s

/-- An enable set as SET-ALERTS carries it (R204). -/
def CauseSet.ofByte (b : Byte) : CauseSet where
  linkEvent := b.getLsbD 0
  frozen := b.getLsbD 1
  poolExhausted := b.getLsbD 2
  lapse := b.getLsbD 3
  holdExpired := b.getLsbD 4
  diverted := b.getLsbD 5

end Sys2Proof.Machine
end

