-- ==== Sys2Proof/Machine/Tracker.lean ====
section
/-! DEFINITION. The tracker's arithmetic: deadlines, arming, tuning, arrivals, rescales and tick
expiries (chapters 4 and 5, R99, R100). -/

namespace Sys2Proof.Machine

/-- A value doubled, saturating at 255 (R62). -/
def doubled (n : Nat) : Nat := min 255 (2 * n)

/-- Whether doubling saturates (R69). -/
def saturates (n : Nat) : Bool := decide (255 < 2 * n)

/-- A value halved, rounding down and kept at least 1 (R71, R91). -/
def halvedKeep (n : Nat) : Nat := max 1 (n / 2)

/-- `doubled` taken `k` times, and whether a doubling saturated (R71). -/
def doubledTimes : Nat → Nat → Nat × Bool
  | 0, n => (n, false)
  | k + 1, n => ((doubledTimes k (doubled n)).1, saturates n || (doubledTimes k (doubled n)).2)

/-- `halvedKeep` taken `k` times (R71). -/
def halvedTimes : Nat → Nat → Nat
  | 0, n => n
  | k + 1, n => halvedTimes k (halvedKeep n)

/-- The capture the basis selects (R67). -/
def Tracker.selected (t : Tracker) : Nat :=
  match t.basis with
  | .last => t.last
  | .previous => t.prev

/-- The unclamped learned deadline (R67). -/
def Tracker.learned (t : Tracker) : Nat := t.weight * t.selected / 32

/-- The deadline and the overflow flag settled in the mode that stands; `sat` tells whether a doubling
earlier in the claim saturated (R67 to R70). -/
def Tracker.settle (t : Tracker) (sat : Bool) : Tracker :=
  match t.mode with
  | .learn =>
    { t with
      deadline := min 255 (max 1 t.learned)
      overflow := sat || decide (255 < t.learned) }
  | .fixed => { t with deadline := t.fixedDeadline, overflow := sat }

/-- The fixed deadline in ticks of the base exponent, and whether a doubling saturated (R71 step 1). -/
def Tracker.rebased (t : Tracker) : Nat × Bool :=
  if t.baseExp < t.exp then doubledTimes (t.exp - t.baseExp) t.fixedDeadline
  else (halvedTimes (t.baseExp - t.exp) t.fixedDeadline, false)

/-- Arming (R71). -/
def Tracker.arm (t : Tracker) : Tracker :=
  { t with
    fixedDeadline := t.rebased.1
    exp := t.baseExp
    last := t.seed
    prev := t.seed
    elapsed := 0
    misses := 0
    preload := none
    scaleUp := false
    scaleDown := false
    scaleLimit := false }.settle t.rebased.2

/-- Given fields replace the settings; a switch from FIXED to LEARN clears both scale requests
(R86 steps 1 and 2, R89, R90). -/
def Tracker.applyTune (t : Tracker) (u : Tune) : Tracker :=
  let toLearn : Bool := t.mode == .fixed && u.mode == some .learn
  { t with
    weight := u.weight.getD t.weight
    basis := u.basis.getD t.basis
    missLimit := u.missLimit.getD t.missLimit
    gapPolicy := u.gapPolicy.getD t.gapPolicy
    mode := u.mode.getD t.mode
    fixedDeadline := u.fixedDeadline.getD t.fixedDeadline
    scaleUp := t.scaleUp && !toLearn
    scaleDown := t.scaleDown && !toLearn }

/-- Whether a tune record gives no field (R85). -/
def Tune.isEmpty (u : Tune) : Bool :=
  u.weight.isNone && u.basis.isNone && u.missLimit.isNone && u.gapPolicy.isNone && u.mode.isNone &&
    u.fixedDeadline.isNone

/-- TUNE-ENTRY on an entry that is not counting (R86). -/
def Tracker.tuneNow (t : Tracker) (u : Tune) : Tracker :=
  let t1 := t.applyTune u
  { t1 with preload := none, misses := min t1.misses t1.missLimit }.settle false

/-- TUNE-ENTRY on a tracking, overdue or lapsed entry (R87, R88). -/
def Tracker.tuneLater (t : Tracker) (u : Tune) : Tracker :=
  { t with preload := if u.isEmpty then none else some u }

/-- The preload step of an arrival (R89). -/
def Tracker.takePreload (t : Tracker) : Tracker :=
  match t.preload with
  | none => t
  | some u => { t.applyTune u with preload := none }

/-- A capture (R66). -/
def Tracker.capture (t : Tracker) : Tracker := { t with prev := t.last, last := t.elapsed }

/-- The speed-up rescale of a LEARN tracker (R75, R91). -/
def Tracker.speedUp (t : Tracker) : Tracker :=
  { t with
    exp := t.exp - 1
    last := doubled t.last
    prev := doubled t.prev
    fixedDeadline := doubled t.fixedDeadline }

/-- Whether the speed-up's doublings saturate (R75, R91). -/
def Tracker.speedUpSaturates (t : Tracker) : Bool :=
  saturates t.last || saturates t.prev || saturates t.fixedDeadline

/-- An up request at the scale step (R95, R97). -/
def Tracker.scaleUpStep (t : Tracker) : Tracker :=
  if 15 ≤ t.exp then { t with scaleUp := false, scaleLimit := true }
  else
    { t with
      exp := t.exp + 1
      elapsed := t.elapsed / 2
      last := t.last / 2
      prev := t.prev / 2
      fixedDeadline := halvedKeep t.fixedDeadline
      scaleUp := false
      scaleLimit := false }

/-- A down request at the scale step (R96, R97). -/
def Tracker.scaleDownStep (t : Tracker) : Tracker :=
  if t.exp = 0 then { t with scaleDown := false, scaleLimit := true }
  else
    { t with
      exp := t.exp - 1
      elapsed := doubled t.elapsed
      last := doubled t.last
      prev := doubled t.prev
      fixedDeadline := doubled t.fixedDeadline
      scaleDown := false
      scaleLimit := false }

/-- Whether the scale step's doublings saturate (R69, R96). -/
def Tracker.scaleDownSaturates (t : Tracker) : Bool :=
  decide (t.exp ≠ 0) &&
    (saturates t.elapsed || saturates t.last || saturates t.prev || saturates t.fixedDeadline)

/-- The scale step: at most one request, up before down (R94). -/
def Tracker.scaleStep (t : Tracker) : Tracker :=
  if t.scaleUp then t.scaleUpStep
  else if t.scaleDown then t.scaleDownStep
  else t

/-- Whether a doubling of the scale step saturates. -/
def Tracker.scaleSaturates (t : Tracker) : Bool :=
  !t.scaleUp && t.scaleDown && t.scaleDownSaturates

/-- The rescale or scale step of an arrival in TRACKING, with the deadline after it, in the mode the
preload left (R74 steps 3 and 4, R76 steps 3 and 4). -/
def Tracker.rescale (t : Tracker) : Tracker :=
  match t.mode with
  | .learn =>
    if 0 < t.exp ∧ t.last < Config.speedUpBelow then t.speedUp.settle t.speedUpSaturates
    else t.settle false
  | .fixed => t.scaleStep.settle t.scaleSaturates

/-- The last step of every arrival (R73, R74, R76, R77). -/
def Tracker.endCounts (t : Tracker) : Tracker := { t with elapsed := 0, misses := 0 }

/-- An arrival at a TRACKING entry (R74, R76, R78). -/
def Tracker.arriveTracking (t : Tracker) : Tracker := t.capture.takePreload.rescale.endCounts

/-- An arrival at an ARMED, OVERDUE or LAPSED entry (R73, R77, R78). -/
def Tracker.arriveOther (t : Tracker) : Tracker := (t.takePreload.settle false).endCounts

/-- The repeat deadline of an OVERDUE entry (R100). -/
def Tracker.repeatDeadline (t : Tracker) : Nat :=
  match t.mode with
  | .learn => max 1 t.selected
  | .fixed => t.fixedDeadline

/-- The slow-down rescale (R79 steps 1 to 3, R91). -/
def Tracker.slowDown (t : Tracker) : Tracker :=
  { t with
    exp := t.exp + 1
    elapsed := t.elapsed / 2
    last := t.last / 2
    prev := t.prev / 2
    fixedDeadline := halvedKeep t.fixedDeadline }.settle false

/-- Whether the tick that brings `elapsed` makes a slow-down (R64 step 2, R79). -/
def Tracker.slowsAt (t : Tracker) (st : EntryState) (elapsed : Nat) : Bool :=
  st == .tracking && t.mode == .learn && decide (t.exp < 15) && decide (elapsed = 255)

/-- A tick expiry at a counting entry's tracker: the tracker after it, and whether a lapse is taken in
the same claim (R64, R79, R99). -/
def Tracker.tick (t : Tracker) (st : EntryState) : Tracker × Bool :=
  let t1 := { t with elapsed := t.elapsed + 1 }
  if t.slowsAt st (t.elapsed + 1) then (t1.slowDown, decide (t1.slowDown.deadline ≤ 127))
  else if st = .tracking then (t1, decide (t1.elapsed = t1.deadline))
  else (t1, decide (t1.elapsed = t1.repeatDeadline))

/-- A TRACKING tracker run on to its next lapse: a deadline of 255 under LEARN below exponent 15 is met
by slow-downs, at most `fuel` of them, until the new deadline calls for the lapse (R79). -/
def Tracker.toDeadline : Nat → Tracker → Tracker
  | 0, t => t
  | fuel + 1, t =>
    if t.slowsAt .tracking t.deadline then
      let t1 := { t with elapsed := 255 }.slowDown
      if t1.deadline ≤ 127 then t1 else Tracker.toDeadline fuel t1
    else t

/-- The tracker of a counting entry as it stands when it reaches its deadline or repeat deadline with
no arrival (R99). An exponent rises at most 15 times. -/
def Tracker.untilLapse (t : Tracker) (st : EntryState) : Tracker :=
  if st = .tracking then Tracker.toDeadline (15 - t.exp) t else t

end Sys2Proof.Machine
end

