-- ==== Sys2Proof/Machine/Ops.lean ====
section
/-! DEFINITION. The named operations on the state that the meanings share: ports and counters, the pool,
the table, queues and flushes, flow control, transmissions, lapses and the mode. -/

namespace Sys2Proof.Machine

/-! ### Running, ports and counters -/

/-- Whether the part is out of cold reset (R203). -/
def State.running (s : State) : Bool := s.powered && !s.resetLow

/-- A change the part makes only while it is out of cold reset: held in reset it takes no frame and no
command (R203). -/
def State.live (s : State) (f : State → State) : State := if s.running then f s else s

/-- The state of a port. -/
def State.port (s : State) : Port → PortState
  | .N => s.portN
  | .S => s.portS

/-- A change of one port's state. -/
def State.modPort (s : State) (p : Port) (f : PortState → PortState) : State :=
  match p with
  | .N => { s with portN := f s.portN }
  | .S => { s with portS := f s.portS }

/-- UP or DOWN: a port is DOWN exactly while its receiver is OFF (R7, R8, R11). -/
def PortState.isUp (ps : PortState) : Bool := ps.receiver != .off

/-- The counters of a port, by name (R17, R60, R142, R146). -/
inductive PortCounter where
  | intact
  | errored
  | aborted
  | noBuffer
  | lineResets
  | downEvents
  | misses
  | haltedDrops
  | downDrops
  | queueFull
  | pausesSent
  | resumesSent
  | holdExpiries
  deriving DecidableEq, Repr

/-- One counter raised by one, saturating. -/
def PortCounters.inc (c : PortCounters) : PortCounter → PortCounters
  | .intact => { c with intact := satInc c.intact }
  | .errored => { c with errored := satInc c.errored }
  | .aborted => { c with aborted := satInc c.aborted }
  | .noBuffer => { c with noBuffer := satInc c.noBuffer }
  | .lineResets => { c with lineResets := satInc c.lineResets }
  | .downEvents => { c with downEvents := satInc c.downEvents }
  | .misses => { c with misses := satInc c.misses }
  | .haltedDrops => { c with haltedDrops := satInc c.haltedDrops }
  | .downDrops => { c with downDrops := satInc c.downDrops }
  | .queueFull => { c with queueFull := satInc c.queueFull }
  | .pausesSent => { c with pausesSent := satInc c.pausesSent }
  | .resumesSent => { c with resumesSent := satInc c.resumesSent }
  | .holdExpiries => { c with holdExpiries := satInc c.holdExpiries }

/-- A counter of a port raised by one. -/
def State.count (s : State) (p : Port) (c : PortCounter) : State :=
  s.modPort p fun ps => { ps with counters := ps.counters.inc c }

/-- The counters of an entry, by name (R19). -/
inductive EntryCounter where
  | passed
  | dropped
  | duplicates
  | slips
  | misses
  | lapses
  | markersLost
  deriving DecidableEq, Repr

/-- One counter of an entry raised by one, saturating. -/
def EntryCounters.inc (c : EntryCounters) : EntryCounter → EntryCounters
  | .passed => { c with passed := satInc c.passed }
  | .dropped => { c with dropped := satInc c.dropped }
  | .duplicates => { c with duplicates := satInc c.duplicates }
  | .slips => { c with slips := satInc c.slips }
  | .misses => { c with misses := satInc c.misses }
  | .lapses => { c with lapses := satInc c.lapses }
  | .markersLost => { c with markersLost := satInc c.markersLost }

/-- An entry with one counter raised. -/
def Entry.count (e : Entry) (c : EntryCounter) : Entry := { e with counters := e.counters.inc c }

/-! ### The pool -/

/-- A buffer freed (R117). -/
def State.release (s : State) (b : BufId) : State := { s with free := b :: s.free }

/-- Several buffers freed (R131). -/
def State.releaseAll (s : State) (bs : List BufId) : State := { s with free := bs ++ s.free }

/-- The stored bytes of a buffer replaced. -/
def State.store (s : State) (b : BufId) (bytes : List Byte) : State :=
  { s with contents := s.contents.set b bytes }

/-- The buffer a descriptor names (R121). -/
def Descr.buf : Descr → Option BufId
  | .frame b => some b
  | .marker _ => none

/-- The buffers the descriptors of a cyclic queue name. -/
def descrBufs (q : List Descr) : List BufId := q.filterMap Descr.buf

/-! ### The table -/

/-- The entry at an index; none for a FREE entry. -/
def State.entry (s : State) (i : Byte) : Option Entry := s.table[i.toNat]'(by have := i.isLt; omega)

/-- The entry at an index replaced. -/
def State.setEntry (s : State) (i : Byte) (e : Option Entry) : State :=
  { s with table := s.table.set i.toNat e (by have := i.isLt; omega) }

/-- A change of a written entry; a FREE one stays FREE. -/
def State.modEntry (s : State) (i : Byte) (f : Entry → Entry) : State :=
  s.setEntry i ((s.entry i).map f)

/-- The same change of every entry. -/
def mapTable (t : Vector (Option Entry) 256) (f : Option Entry → Option Entry) :
    Vector (Option Entry) 256 :=
  ⟨(t.toList.map f).toArray, by simp⟩

/-- The gate of an entry's group (R31). -/
def State.gateOf (s : State) (e : Entry) : Gate := s.gates[e.group]

/-- Whether the lock of an entry's group is set (R34). -/
def State.lockedEntry (s : State) (e : Entry) : Bool := s.groupLocks[e.group]

/-- Every entry index, 0 to 255. -/
def allIndices : List Byte := (List.range 256).map (BitVec.ofNat 8)

/-- Whether the entry at an index is not FREE and holds a key (R20). -/
def State.holdsKey (s : State) (p : Port) (id : StreamId) (i : Byte) : Bool :=
  match s.entry i with
  | none => false
  | some e => e.keyPort == p && e.streamId == id

/-- The lookup of a key (R20). -/
def State.lookup (s : State) (p : Port) (id : StreamId) : Option Byte :=
  allIndices.find? (s.holdsKey p id)

/-- ARMED, TRACKING, OVERDUE and LAPSED (section 2.3). -/
def EntryState.active : EntryState → Bool
  | .suspended => false
  | _ => true

/-- TRACKING and OVERDUE. -/
def EntryState.tracked : EntryState → Bool
  | .tracking => true
  | .overdue => true
  | _ => false

/-- Whether an entry's tick timer runs (R63). -/
def State.counting (s : State) (e : Entry) : Bool :=
  e.state.tracked && s.mode == .run && s.gateOf e == .opened

/-- The move of a TRACKING or OVERDUE entry to ARMED when the mode leaves RUN or its gate closes
(R30, R31). -/
def Entry.disarm (e : Entry) : Entry :=
  if e.state.tracked then
    { e with state := .armed, tracker := e.tracker.map fun t => { t with misses := 0 } }
  else e

/-- `Entry.disarm` at every entry a test picks. -/
def State.disarm (s : State) (pick : Entry → Bool) : State :=
  { s with table := mapTable s.table (Option.map fun e => if pick e then e.disarm else e) }

/-- The arming of an entry: expected seq absent, tracker armed (R24, R71). -/
def Entry.arm (e : Entry) : Entry :=
  { e with state := .armed, expSeq := none, tracker := e.tracker.map Tracker.arm }

/-- An index removed from the lapse list, the others keeping their order (R110). -/
def State.unlist (s : State) (i : Byte) : State :=
  { s with lapseList := s.lapseList.filter (· != i) }

/-- An entry that became LAPSED joins the lapse list, or the full list's overflow flag is set
(R106, R114). -/
def State.enlist (s : State) (i : Byte) : State :=
  s.alerting fun s =>
    if s.lapseList.length < Config.lapseCapacity then { s with lapseList := s.lapseList ++ [i] }
    else { s with lapseOverflow := true }

/-! ### Flow control -/

/-- What became of a frame bound for an egress queue (R138). -/
inductive Placed where
  | queued
  | full
  | down
  deriving DecidableEq, Repr

/-- A report of an acyclic-bound frame to the pause half of its ingress port, with the depth of the
measured queue after it (R139, R140). -/
def PortState.frameReport (ps : PortState) (placed : Placed) (depth : Nat) : PortState :=
  match ps.pauseState with
  | .opened =>
    if (placed = .queued ∧ ps.settings.upper ≤ depth) ∨ placed = .full then
      { ps with pauseState := .paused, resend := 0, controlSlot := some .pause }
    else ps
  | .paused =>
    if ps.settings.pauseRepeat ≤ ps.resend + 1 then
      { ps with resend := 0, controlSlot := some .pause }
    else { ps with resend := ps.resend + 1 }

/-- A removal or flush report to a pause half (R141). -/
def PortState.drainReport (ps : PortState) (depth : Nat) : PortState :=
  if ps.pauseState = .paused ∧ depth ≤ ps.settings.lower then
    { ps with pauseState := .opened, resend := 0, controlSlot := some .resume }
  else ps

/-- Both halves of a port's flow controller at rest, control slot empty (R147, R149). -/
def PortState.restFlow (ps : PortState) : PortState :=
  { ps with
    pauseState := .opened
    resend := 0
    held := false
    holdTimer := none
    controlSlot := none }

/-- A received PAUSE taken by the hold half (R144). -/
def PortState.hold (ps : PortState) : PortState :=
  { ps with held := true, holdTimer := some ps.settings.holdTimeout }

/-- The hold half released (R145, R146). -/
def PortState.unhold (ps : PortState) : PortState := { ps with held := false, holdTimer := none }

/-! ### Transmissions and flushes -/

/-- Whether a transmission came from a cyclic or acyclic queue (R129). -/
def Outgoing.isTraffic : Outgoing → Bool
  | .cyclic _ => true
  | .acyclic _ => true
  | _ => false

/-- The buffer a transmission holds (R128). -/
def Outgoing.bufs : Outgoing → List BufId
  | .cyclic (.frame b) => [b]
  | .acyclic b => [b]
  | _ => []

/-- The buffer a transmitter holds. -/
def Tx.bufs : Tx → List BufId
  | .sending o => o.bufs
  | _ => []

/-- Whether a transmitter is sending a frame from a cyclic or acyclic queue. -/
def Tx.sendsTraffic : Tx → Bool
  | .sending o => o.isTraffic
  | _ => false

/-- Whether a transmitter is sending a frame. -/
def Tx.isSending : Tx → Bool
  | .sending _ => true
  | _ => false

/-- A port's transmitter ends what it sends, its buffer freed. -/
def State.endTx (s : State) (p : Port) (tx : Tx) : State :=
  (s.releaseAll (s.port p).tx.bufs).modPort p fun ps => { ps with tx := tx }

/-- Any frame in transmission on a port abandoned with ABORT (R129, R130). -/
def State.abandon (s : State) (p : Port) : State :=
  if (s.port p).tx.isSending then s.endTx p (.spacing .abort) else s

/-- A cyclic or acyclic frame in transmission on a port abandoned with ABORT (R129, R130). -/
def State.abandonTraffic (s : State) (p : Port) : State :=
  if (s.port p).tx.sendsTraffic then s.endTx p (.spacing .abort) else s

/-- A port's cyclic and acyclic queues emptied, their buffers freed (R131). -/
def State.emptyQueues (s : State) (p : Port) : State :=
  (s.releaseAll (descrBufs (s.port p).cyclic ++ (s.port p).acyclic)).modPort p fun ps =>
    { ps with cyclic := [], acyclic := [] }

/-- A flush of a port's cyclic and acyclic queues, reported to the pause half that measures the
acyclic one (R131, R138). -/
def State.flushQueues (s : State) (p : Port) : State :=
  (s.emptyQueues p).modPort p.opp fun ps => ps.drainReport 0

/-! ### The mode -/

/-- Whether a mode is HALTED. -/
def RunMode.isHalted : RunMode → Bool
  | .halted _ => true
  | _ => false

/-- Entry into HALTED at the transmitters and queues (R133, R199). -/
def State.enterHalted (s : State) : State :=
  (((s.abandonTraffic .N).abandonTraffic .S).flushQueues .N).flushQueues .S

/-- The entries leave TRACKING and OVERDUE when the mode leaves RUN (R30). -/
def State.leaveRun (s : State) (m : RunMode) : State :=
  if s.mode = .run ∧ m ≠ .run then s.disarm fun _ => true else s

/-- The queues and transmitters at a change of mode (R133). -/
def State.haltPath (s : State) (m : RunMode) : State :=
  if m.isHalted ∧ ¬s.mode.isHalted then s.enterHalted else s

/-- FROZEN is cleared as the mode leaves HALTED (R190, R199). -/
def State.clearFrozen (s : State) (m : RunMode) : State :=
  if s.mode.isHalted ∧ ¬m.isHalted then { s with causes := { s.causes with frozen := false } } else s

/-- A change of the run mode, one claim at the mode controller (R198, R199). -/
def State.changeMode (s : State) (m : RunMode) : State :=
  { ((s.leaveRun m).haltPath m).clearFrozen m with mode := m }

/-- FROZEN set in the pending set (R190, R200). -/
def State.setFrozen (s : State) : State :=
  s.alerting fun s => { s with causes := { s.causes with frozen := true } }

/-- An assertion of the freeze input, its level already recorded (R200). -/
def State.freeze (s : State) : State := (s.changeMode (.halted .freeze)).setFrozen

/-! ### Lapses -/

/-- A gap marker of an entry (R103). -/
def Entry.marker (e : Entry) (i : Byte) (missNumber : Nat) : Marker :=
  ⟨i, e.streamId, e.expSeq.getD 0, missNumber⟩

/-- Whether a gap marker can be placed on a port's cyclic queue (R104). -/
def PortState.takesMarker (ps : PortState) : Bool :=
  ps.isUp && decide (ps.cyclic.length < Config.cyclicCapacity)

/-- The entry after a lapse; `lost` tells whether its marker was made and could not be queued
(R101, R104, R106). -/
def Entry.lapsed (e : Entry) (t : Tracker) (lost : Bool) : Entry :=
  let t1 := { t with misses := t.misses + 1, elapsed := 0 }
  let e1 := { e.count .misses with tracker := some t1 }
  let e2 := if lost then e1.count .markersLost else e1
  if t1.misses = t1.missLimit then { e2.count .lapses with state := .lapsed }
  else { e2 with state := .overdue }

/-- A lapse of entry `i`, whose tracker stands at `t` (R101, R103, R104, R106). -/
def State.takeLapse (s : State) (i : Byte) (e : Entry) (t : Tracker) : State :=
  let egress := e.keyPort.opp
  let marks : Bool := t.gapPolicy == .mark
  let fits := (s.port egress).takesMarker
  let s1 :=
    if marks && fits then
      s.modPort egress fun ps =>
        { ps with cyclic := ps.cyclic ++ [.marker (e.marker i (t.misses + 1))] }
    else s
  let s2 := s1.setEntry i (some (e.lapsed t (marks && !fits)))
  if t.misses + 1 = t.missLimit then s2.enlist i else s2

/-- A tick expiry of entry `i` (R64). -/
def State.takeTick (s : State) (i : Byte) (e : Entry) (t : Tracker) : State :=
  let r := t.tick e.state
  if r.2 then s.takeLapse i e r.1
  else s.setEntry i (some { e with tracker := some r.1 })

end Sys2Proof.Machine
end

