-- ==== Sys2Proof/Machine/Classify.lean ====
section
/-! DEFINITION. The classifier: lookup, entry checks, sequence check, arrival, action and placement
(chapter 3). -/

namespace Sys2Proof.Machine

/-- A frame dropped: its buffer freed (R42). -/
def State.dropFrame (s : State) (b : BufId) : State := s.release b

/-- What a placement toward an egress port finds, by the port's state and the queue's space (R55,
R56). -/
def PortState.placement (ps : PortState) (cls : StreamClass) : Placed :=
  if !ps.isUp then .down
  else
    match cls with
    | .cyclic => if ps.cyclic.length < Config.cyclicCapacity then .queued else .full
    | .acyclic => if ps.acyclic.length < Config.acyclicCapacity then .queued else .full

/-- A FRAME descriptor appended to a port's queue (R56, R57). -/
def PortState.enqueue (ps : PortState) (cls : StreamClass) (b : BufId) : PortState :=
  match cls with
  | .cyclic => { ps with cyclic := ps.cyclic ++ [.frame b] }
  | .acyclic => { ps with acyclic := ps.acyclic ++ [b] }

/-- A placement carried out: queued, or dropped and counted at the egress port (R55, R56). -/
def State.place (s : State) (egress : Port) (cls : StreamClass) (b : BufId) : State :=
  match (s.port egress).placement cls with
  | .queued => s.modPort egress fun ps => ps.enqueue cls b
  | .full => (s.dropFrame b).count egress .queueFull
  | .down => (s.dropFrame b).count egress .downDrops

/-- The report of an acyclic-bound frame to its ingress port's flow controller (R57, R138). -/
def State.reportFrame (s : State) (ingress : Port) (placed : Placed) : State :=
  let depth := (s.port ingress.opp).acyclic.length
  s.modPort ingress fun ps => ps.frameReport placed depth

/-- A frame sent toward the opposite port on its acyclic queue, with the report (R44, R46, R57). -/
def State.sendAcyclic (s : State) (ingress : Port) (b : BufId) : State :=
  (s.place ingress.opp .acyclic b).reportFrame ingress ((s.port ingress.opp).placement .acyclic)

/-- A frame sent toward the opposite port by an entry's class; an acyclic-bound one is reported (R52,
R57). -/
def State.sendByClass (s : State) (ingress : Port) (cls : StreamClass) (b : BufId) : State :=
  match cls with
  | .cyclic => s.place ingress.opp .cyclic b
  | .acyclic => s.sendAcyclic ingress b

/-- A frame placed on the divert queue, or dropped and counted when it holds 16 (R54). -/
def State.divertFrame (s : State) (ingress : Port) (entry : Option Byte) (b : BufId) : State :=
  if s.divert.length < Config.divertCapacity then
    s.alerting fun s => { s with divert := s.divert ++ [⟨b, ingress, entry⟩] }
  else (s.dropFrame b).count ingress .queueFull

/-- A frame that matches no entry (R46). -/
def State.miss (s : State) (ingress : Port) (b : BufId) : State :=
  let s1 := s.count ingress .misses
  match (s.port ingress).settings.missPolicy with
  | .forward => s1.sendAcyclic ingress b
  | .drop => s1.dropFrame b
  | .divert => s1.divertFrame ingress none b

/-- The entry counter of a FORWARD placement (R60). -/
def Entry.countPlaced (e : Entry) : Placed → Entry
  | .queued => e.count .passed
  | .full => e.count .dropped
  | .down => e

/-- The action of entry `i` on a frame that passed its checks (R52 to R54). -/
def State.act (s : State) (ingress : Port) (i : Byte) (e : Entry) (b : BufId) : State :=
  match e.action with
  | .forward =>
    (s.modEntry i fun e => e.countPlaced ((s.port ingress.opp).placement e.cls)).sendByClass ingress
      e.cls b
  | .drop => (s.modEntry i fun e => e.count .dropped).dropFrame b
  | .divert =>
    if s.divert.length < Config.divertCapacity then s.divertFrame ingress (some i) b
    else (s.modEntry i fun e => e.count .dropped).divertFrame ingress (some i) b

/-- The sequence check's verdict (R49, R50). -/
inductive Verdict where
  | accepted
  | duplicate
  | slip
  deriving DecidableEq, Repr

/-- The verdict on a DATA frame's seq (R49, R50). -/
def Entry.verdict (e : Entry) (seq : Byte) : Verdict :=
  if e.seqCheck then
    match e.expSeq with
    | none => .accepted
    | some expected =>
      if seq = expected then .accepted
      else if seq = expected - 1 then .duplicate
      else .slip
  else .accepted

/-- Expected seq after an accepted DATA frame (R49, R50). -/
def Entry.expectNext (e : Entry) (seq : Byte) : Entry :=
  if e.seqCheck then { e with expSeq := some (seq + 1) } else e

/-- The arrival's move of the entry and its tracker's steps (R28, R73 to R77). -/
def Entry.arrive (e : Entry) : Entry :=
  { e with
    state := .tracking
    tracker := e.tracker.map fun t =>
      if e.state = .tracking then t.arriveTracking else t.arriveOther }

/-- An accepted DATA frame at entry `i`: expected seq, a slip counted, and the arrival with its removal
from the lapse list (R49, R51, R108). -/
def State.arrival (s : State) (i : Byte) (e : Entry) (seq : Byte) : State :=
  let e1 := if e.verdict seq = .slip then e.count .slips else e
  (s.setEntry i (some (e1.expectNext seq).arrive)).unlist i

/-- A frame that matches entry `i` (R48 to R54). -/
def State.hit (s : State) (ingress : Port) (i : Byte) (e : Entry) (f : Frame) (b : BufId) : State :=
  if e.state = .suspended ∨ s.gateOf e = .closed then
    (s.setEntry i (some (e.count .dropped))).dropFrame b
  else if f.kind ≠ .data then s.act ingress i e b
  else if e.verdict f.seq = .duplicate then
    (s.setEntry i (some (e.count .duplicates))).dropFrame b
  else (s.arrival i e f.seq).act ingress i e b

/-- The classifier's decision on one traffic frame (R42, R43). -/
def State.classify (s : State) (ingress : Port) (f : Frame) (b : BufId) : State :=
  match s.mode with
  | .bypass => s.sendAcyclic ingress b
  | .halted _ => (s.dropFrame b).count ingress .haltedDrops
  | .run =>
    match s.lookup ingress f.streamId with
    | none => s.miss ingress b
    | some i =>
      match s.entry i with
      | none => s.miss ingress b
      | some e => s.hit ingress i e f b

end Sys2Proof.Machine
end

