-- ==== Sys2Proof/Machine/Operands.lean ====
section
/-! DEFINITION. Operand forms: the codes and ranges of request arguments (R206), the records they
spell, and the images responses carry (R208, R209). -/

namespace Sys2Proof.Machine

/-! ### Codes of arguments -/

/-- Port codes (R206). -/
def portOf : Byte → Option Port
  | 0#8 => some .N
  | 1#8 => some .S
  | _ => none

/-- The code of a port. -/
def portCode : Port → Byte
  | .N => 0#8
  | .S => 1#8

/-- Miss policy codes (R206). -/
def missPolicyOf : Byte → Option MissPolicy
  | 0#8 => some .forward
  | 1#8 => some .drop
  | 2#8 => some .divert
  | _ => none

/-- Action codes (R206). -/
def actionOf : Byte → Option Action
  | 0#8 => some .forward
  | 1#8 => some .drop
  | 2#8 => some .divert
  | _ => none

/-- The code of an action. -/
def actionCode : Action → Byte
  | .forward => 0#8
  | .drop => 1#8
  | .divert => 2#8

/-- Class codes (R206). -/
def classOf : Byte → Option StreamClass
  | 0#8 => some .cyclic
  | 1#8 => some .acyclic
  | _ => none

/-- The code of a class. -/
def classCode : StreamClass → Byte
  | .cyclic => 0#8
  | .acyclic => 1#8

/-- Codes 0 OFF and 1 ON (R206). -/
def switchOf : Byte → Option Bool
  | 0#8 => some false
  | 1#8 => some true
  | _ => none

/-- Cadence mode codes; the inner none is OFF (R206). -/
def cadenceOf : Byte → Option (Option TrackMode)
  | 0#8 => some none
  | 1#8 => some (some .fixed)
  | 2#8 => some (some .learn)
  | _ => none

/-- The code of a tracker's mode. -/
def trackModeCode : TrackMode → Byte
  | .fixed => 1#8
  | .learn => 2#8

/-- Codes of a given tune mode: OFF is out of range (R85). -/
def trackModeOf : Byte → Option TrackMode
  | 1#8 => some .fixed
  | 2#8 => some .learn
  | _ => none

/-- Basis select codes (R206). -/
def basisOf : Byte → Option Basis
  | 0#8 => some .last
  | 1#8 => some .previous
  | _ => none

/-- The code of a basis. -/
def basisCode : Basis → Byte
  | .last => 0#8
  | .previous => 1#8

/-- Gap policy codes (R206). -/
def gapPolicyOf : Byte → Option GapPolicy
  | 0#8 => some .mark
  | 1#8 => some .silent
  | _ => none

/-- The code of a gap policy. -/
def gapPolicyCode : GapPolicy → Byte
  | .mark => 0#8
  | .silent => 1#8

/-- A byte in a range of numbers, or none. -/
def rangeOf (lo hi : Nat) (b : Byte) : Option Nat :=
  if lo ≤ b.toNat ∧ b.toNat ≤ hi then some b.toNat else none

/-- A group 0 to 7, or none (R206). -/
def groupOf (b : Byte) : Option (Fin 8) := if h : b.toNat < 8 then some ⟨b.toNat, h⟩ else none

/-- A stream id carried in a payload: above 4095 it names none (R205). -/
def streamIdOf (w : Word16) : Option StreamId :=
  if w.toNat ≤ 4095 then some (w.setWidth 12) else none

/-- Mode codes; HALTED by command (R206, R183). -/
def modeOf : Byte → Option RunMode
  | 0#8 => some .bypass
  | 1#8 => some .run
  | 2#8 => some (.halted .command)
  | _ => none

/-- Gate setting codes (R206). -/
def gateOf : Byte → Option Gate
  | 0#8 => some .opened
  | 1#8 => some .closed
  | _ => none

/-! ### Records -/

/-- The tracker an entry record gives, before arming: settings from the record, the running exponent
the base exponent (R22, R61). None when a tracker setting is out of its range (R23). -/
def trackerOf (r : EntryRecord) (m : TrackMode) : Option Tracker := do
  let exp ← rangeOf 0 15 r.exponent
  let seed ← rangeOf 1 255 r.seed
  let weight ← rangeOf 1 255 r.weight
  let basis ← basisOf r.basis
  let fixedDeadline ← rangeOf 1 255 r.fixedDeadline
  let missLimit ← rangeOf 1 15 r.missLimit
  let gapPolicy ← gapPolicyOf r.gapPolicy
  pure
    { mode := m
      baseExp := exp
      seed := seed
      weight := weight
      basis := basis
      fixedDeadline := fixedDeadline
      missLimit := missLimit
      gapPolicy := gapPolicy
      exp := exp
      elapsed := 0
      last := seed
      prev := seed
      deadline := 1
      overflow := false
      misses := 0
      scaleUp := false
      scaleDown := false
      scaleLimit := false
      preload := none }

/-- The cadence part an entry record gives, armed; the outer none is a bad argument, the inner one
cadence mode OFF (R22, R23). -/
def cadencePartOf (r : EntryRecord) : Option (Option Tracker) :=
  match cadenceOf r.cadenceMode with
  | none => none
  | some none => some none
  | some (some m) => (trackerOf r m).map fun t => some t.arm

/-- The entry a record writes (R22), or none when an argument is out of its range (R23). -/
def entryOf (r : EntryRecord) : Option Entry := do
  let keyPort ← portOf r.keyPort
  let streamId ← streamIdOf r.streamId
  let action ← actionOf r.action
  let cls ← classOf r.cls
  let group ← groupOf r.group
  let seqCheck ← switchOf r.seqCheck
  let tracker ← cadencePartOf r
  pure
    { state := if r.armFlag.getLsbD 0 then .armed else .suspended
      keyPort := keyPort
      streamId := streamId
      action := action
      cls := cls
      group := group
      seqCheck := seqCheck
      expSeq := none
      tracker := tracker
      counters := .zero }

/-- One field of a tune record: absent when its mask bit is clear, otherwise tested (R85, R205).
The outer none is a bad argument. -/
def givenField {α : Type} (given : Bool) (value : Option α) : Option (Option α) :=
  if given then value.map some else some none

/-- The tuning a tune record spells, or none when a given field is out of its range (R85). -/
def tuneOf (r : TuneRecord) : Option Tune := do
  let weight ← givenField (r.mask.getLsbD 0) (rangeOf 1 255 r.weight)
  let basis ← givenField (r.mask.getLsbD 1) (basisOf r.basis)
  let missLimit ← givenField (r.mask.getLsbD 2) (rangeOf 1 15 r.missLimit)
  let gapPolicy ← givenField (r.mask.getLsbD 3) (gapPolicyOf r.gapPolicy)
  let mode ← givenField (r.mask.getLsbD 4) (trackModeOf r.mode)
  let fixedDeadline ← givenField (r.mask.getLsbD 5) (rangeOf 1 255 r.fixedDeadline)
  pure ⟨weight, basis, missLimit, gapPolicy, mode, fixedDeadline⟩

/-- The settings SET-PORT carries, or none when an argument is out of its range (R136, R184). -/
def settingsOf (a : PortArgs) : Option PortSettings := do
  let missPolicy ← missPolicyOf a.missPolicy
  let upper ← rangeOf 2 64 a.upper
  let lower ← rangeOf 0 63 a.lower
  let pauseRepeat ← rangeOf 1 16 a.pauseRepeat
  let holdTimeout ← rangeOf 1 255 a.holdTimeout
  if lower < upper ∧ (pauseRepeat = 1 ∨ pauseRepeat = 4 ∨ pauseRepeat = 8 ∨ pauseRepeat = 16) then
    pure ⟨missPolicy, upper, lower, pauseRepeat, holdTimeout⟩
  else none

/-! ### Response images -/

/-- A count as one byte; 256 goes out as 0 (R205). -/
def countByte (n : Nat) : Byte := BitVec.ofNat 8 n

/-- A count as two bytes, high byte first. -/
def countBytes (n : Nat) : List Byte := be16 (BitVec.ofNat 16 n)

/-- The state codes of a written entry (R208). -/
def stateCode : EntryState → Byte
  | .suspended => 1#8
  | .armed => 2#8
  | .tracking => 3#8
  | .overdue => 4#8
  | .lapsed => 5#8

/-- An entry's counters, 4 bytes each, in the order of R177. -/
def EntryCounters.bytes (c : EntryCounters) : List Byte :=
  be32 c.passed ++ be32 c.dropped ++ be32 c.duplicates ++ be32 c.slips ++ be32 c.misses ++
    be32 c.lapses ++ be32 c.markersLost

/-- A port's counters, 4 bytes each, in the order of R177. -/
def PortCounters.bytes (c : PortCounters) : List Byte :=
  be32 c.intact ++ be32 c.errored ++ be32 c.aborted ++ be32 c.noBuffer ++ be32 c.lineResets ++
    be32 c.downEvents ++ be32 c.misses ++ be32 c.haltedDrops ++ be32 c.downDrops ++
    be32 c.queueFull ++ be32 c.pausesSent ++ be32 c.resumesSent ++ be32 c.holdExpiries

/-- The given mask of a preload (R208). -/
def Tune.mask (u : Tune) : Byte :=
  bitAt 0 u.weight.isSome ||| bitAt 1 u.basis.isSome ||| bitAt 2 u.missLimit.isSome |||
    bitAt 3 u.gapPolicy.isSome ||| bitAt 4 u.mode.isSome ||| bitAt 5 u.fixedDeadline.isSome

/-- Bytes 26 to 32 of an entry image: the preload (R208). -/
def preloadBytes : Option Tune → List Byte
  | none => [0#8, 0#8, 0#8, 0#8, 0#8, 0#8, 0#8]
  | some u =>
    [u.mask, countByte (u.weight.getD 0), (u.basis.map basisCode).getD 0#8,
      countByte (u.missLimit.getD 0), (u.gapPolicy.map gapPolicyCode).getD 0#8,
      (u.mode.map trackModeCode).getD 0#8, countByte (u.fixedDeadline.getD 0)]

/-- Bytes 12 to 32 of an entry image: the cadence part (R208, R209). -/
def cadenceBytes : Option Tracker → List Byte
  | none => List.replicate 21 0#8
  | some t =>
    [countByte t.baseExp, countByte t.seed, countByte t.weight, basisCode t.basis,
      countByte t.fixedDeadline, countByte t.missLimit, gapPolicyCode t.gapPolicy,
      countByte t.exp, countByte t.elapsed, countByte t.last, countByte t.prev,
      countByte t.deadline, countByte t.misses,
      bitAt 0 t.overflow ||| bitAt 1 t.scaleUp ||| bitAt 2 t.scaleDown ||| bitAt 3 t.scaleLimit] ++
      preloadBytes t.preload

/-- The entry image READ-ENTRY returns (R179, R208, R209). -/
def entryImage (listed : Bool) : Option Entry → List Byte
  | none => List.replicate 61 0#8
  | some e =>
    [stateCode e.state, portCode e.keyPort] ++ be16 (e.streamId.setWidth 16) ++
      [actionCode e.action, classCode e.cls, countByte e.group.val, boolByte e.seqCheck,
        boolByte e.expSeq.isSome, e.expSeq.getD 0#8,
        (e.tracker.map fun t => trackModeCode t.mode).getD 0#8, boolByte listed] ++
      cadenceBytes e.tracker ++ e.counters.bytes

/-- Bytes 0 and 1 of the status image: run mode and halt cause (R208). -/
def modeBytes : RunMode → List Byte
  | .bypass => [0#8, 0#8]
  | .run => [1#8, 0#8]
  | .halted .command => [2#8, 1#8]
  | .halted .freeze => [2#8, 2#8]

/-- A port's four bytes of the status image (R208). -/
def portBytes (ps : PortState) : List Byte :=
  [boolByte ps.isUp, boolByte (ps.pauseState == .paused), boolByte ps.held,
    match ps.controlSlot with
    | none => 0#8
    | some .pause => 1#8
    | some .resume => 2#8]

/-- The last load result's bytes 20 to 24 of the status image (R208). -/
def lastLoadBytes : Option LoadResult → List Byte
  | none => [0#8, 0#8, 0#8, 0#8, 0#8]
  | some r => [1#8, r.status.code, countByte r.step] ++ countBytes r.next

/-- Eight Bools as the bits of a byte, index 0 the least significant. -/
def maskByte (v : Vector Bool 8) : Byte :=
  bitAt 0 v[0] ||| bitAt 1 v[1] ||| bitAt 2 v[2] ||| bitAt 3 v[3] ||| bitAt 4 v[4] |||
    bitAt 5 v[5] ||| bitAt 6 v[6] ||| bitAt 7 v[7]

/-- The gates byte of the status image: bit g set when group g is CLOSED (R208). -/
def gateByte (v : Vector Gate 8) : Byte :=
  bitAt 0 (v[0] == .closed) ||| bitAt 1 (v[1] == .closed) ||| bitAt 2 (v[2] == .closed) |||
    bitAt 3 (v[3] == .closed) ||| bitAt 4 (v[4] == .closed) ||| bitAt 5 (v[5] == .closed) |||
    bitAt 6 (v[6] == .closed) ||| bitAt 7 (v[7] == .closed)

/-- The status image READ-STATUS returns (R176, R208). -/
def statusImage (s : State) : List Byte :=
  modeBytes s.mode ++ [boolByte s.freezeLow] ++ be16 (s.mgmtId.setWidth 16) ++
    [bitAt 0 s.mgmt.heldEvent ||| bitAt 1 s.mgmt.escalated ||| bitAt 2 s.mgmt.escTimer.isSome] ++
    be32 s.mgmt.unanswered ++ be32 s.mgmt.linkEvents ++ countBytes s.mgmt.nextIndex ++
    [countByte s.mgmt.remaining] ++ countBytes s.mgmt.reload ++ [countByte s.mgmt.step] ++
    lastLoadBytes s.mgmt.lastLoad ++ portBytes s.portN ++ portBytes s.portS ++
    [countByte s.free.length, countByte s.portN.cyclic.length, countByte s.portN.acyclic.length,
      countByte s.portS.cyclic.length, countByte s.portS.acyclic.length,
      countByte s.divert.length, countByte s.responses.length, gateByte s.gates,
      maskByte s.groupLocks, boolByte s.configLock, countByte s.lapseList.length,
      boolByte s.lapseOverflow, s.pendingCauses.byte, s.enables.byte]

/-- The identity IDENTIFY returns (R175, R208). -/
def identityBytes : List Byte :=
  be16 Config.vendorCode ++ be16 Config.partCode ++ [Config.revision] ++ be16 Config.tableSize ++
    [Config.poolSize]

end Sys2Proof.Machine
end

