-- ==== Sys2Proof/Machine/Entries.lean ====
section
/-! DEFINITION. The slot commands on entries, gates, locks and the management stream id, and the checks
of an entry write (chapters 2 and 5, sections 10.4 and 10.8). -/

namespace Sys2Proof.Machine

/-- What a slot command's execution gives: a status, data with DONE, and the state (R174). -/
structure SlotResult where
  status : Status
  data : List Byte
  state : State
  deriving DecidableEq, Repr

/-- A refusal or an EMPTY answer: nothing changed, no data (R174). -/
def State.answer (s : State) (st : Status) : SlotResult := ⟨st, [], s⟩

/-- A command carried out, with no data. -/
def State.done (s : State) : SlotResult := ⟨.done, [], s⟩

/-- Whether another entry than `i` holds a key (R21). -/
def State.keyHeldElsewhere (s : State) (p : Port) (id : StreamId) (i : Byte) : Bool :=
  allIndices.any fun j => j != i && s.holdsKey p id j

/-- The checks of an entry write in their order (R23): the refusal, or the entry to write. -/
def State.checkWrite (s : State) (i : Byte) (r : EntryRecord) : Except Status Entry :=
  match entryOf r with
  | none => .error .badArgument
  | some e =>
    if e.keyPort = .N ∧ e.streamId = s.mgmtId then .error .badArgument
    else if ((s.entry i).map s.lockedEntry).getD false ∨ s.lockedEntry e then .error .locked
    else if ((s.entry i).map fun old => old.state.active).getD false then .error .entryState
    else if s.keyHeldElsewhere e.keyPort e.streamId i then .error .duplicateKey
    else .ok e

/-- WRITE-ENTRY at execution (R22, R23). -/
def slotWriteEntry (i : Byte) (r : EntryRecord) (s : State) : SlotResult :=
  match s.checkWrite i r with
  | .error st => s.answer st
  | .ok e => (s.setEntry i (some e)).done

/-- READ-ENTRY at execution (R179). -/
def slotReadEntry (i : Byte) (s : State) : SlotResult :=
  ⟨.done, entryImage (s.lapseList.contains i) (s.entry i), s⟩

/-- FREE-ENTRY at execution (R26). -/
def slotFreeEntry (i : Byte) (s : State) : SlotResult :=
  match s.entry i with
  | none => s.done
  | some e =>
    if s.lockedEntry e then s.answer .locked
    else if e.state.active then s.answer .entryState
    else (s.setEntry i none).done

/-- ARM-ENTRY at execution (R24). -/
def slotArmEntry (i : Byte) (s : State) : SlotResult :=
  match s.entry i with
  | none => s.answer .entryState
  | some e =>
    if s.lockedEntry e then s.answer .locked
    else if e.state.active then s.done
    else (s.setEntry i (some e.arm)).done

/-- SUSPEND-ENTRY at execution (R25). -/
def slotSuspendEntry (i : Byte) (s : State) : SlotResult :=
  match s.entry i with
  | none => s.answer .entryState
  | some e =>
    if s.lockedEntry e then s.answer .locked
    else if e.state.active then
      ((s.setEntry i (some { e with state := .suspended })).unlist i).done
    else s.done

/-- A tuning taken by a tracker, at once or as a preload, by the entry's state (R85 to R87). -/
def Entry.tune (e : Entry) (t : Tracker) (u : Tune) : Tracker :=
  if e.state = .suspended ∨ e.state = .armed then t.tuneNow u else t.tuneLater u

/-- TUNE-ENTRY at execution (R85, R27). -/
def slotTuneEntry (i : Byte) (r : TuneRecord) (s : State) : SlotResult :=
  match tuneOf r with
  | none => s.answer .badArgument
  | some u =>
    match s.entry i with
    | none => s.answer .entryState
    | some e =>
      if s.lockedEntry e then s.answer .locked
      else
        match e.tracker with
        | none => s.answer .entryState
        | some t => (s.setEntry i (some { e with tracker := some (e.tune t u) })).done

/-- A scale request's flag set (R92). -/
def Tracker.request (t : Tracker) (up : Bool) : Tracker :=
  if up then { t with scaleUp := true } else { t with scaleDown := true }

/-- Direction codes: 0 UP, 1 DOWN; the value tells UP (R206). -/
def directionOf : Byte → Option Bool
  | 0#8 => some true
  | 1#8 => some false
  | _ => none

/-- STEP-SCALE at execution (R92, R27). -/
def slotStepScale (i direction : Byte) (s : State) : SlotResult :=
  match directionOf direction with
  | none => s.answer .badArgument
  | some up =>
    match s.entry i with
    | none => s.answer .entryState
    | some e =>
      if s.lockedEntry e then s.answer .locked
      else
        match e.tracker with
        | none => s.answer .entryState
        | some t =>
          if t.mode = .learn then s.answer .entryState
          else (s.setEntry i (some { e with tracker := some (t.request up) })).done

/-- FIND-ENTRY at execution (R180). -/
def slotFindEntry (port : Byte) (id : Word16) (s : State) : SlotResult :=
  match portOf port, streamIdOf id with
  | some p, some sid =>
    match s.lookup p sid with
    | none => s.answer .empty
    | some i =>
      match s.entry i with
      | none => s.answer .empty
      | some e => ⟨.done, [i, stateCode e.state], s⟩
  | _, _ => s.answer .badArgument

/-- A gate set; closing it moves the group's TRACKING and OVERDUE entries to ARMED (R31). -/
def State.setGate (s : State) (g : Fin 8) (o : Gate) : State :=
  let s1 := if o = .closed then s.disarm fun e => e.group == g else s
  { s1 with gates := s1.gates.set g o }

/-- SET-GATE at execution (R32). -/
def slotSetGate (group setting : Byte) (s : State) : SlotResult :=
  match groupOf group, gateOf setting with
  | some g, some o =>
    if s.groupLocks[g] then s.answer .locked
    else if s.gates[g] = o then s.done
    else (s.setGate g o).done
  | _, _ => s.answer .badArgument

/-- SET-LOCK at execution (R33): 0 to 7 a group, 8 CONFIG. -/
def slotSetLock (lock : Byte) (s : State) : SlotResult :=
  match groupOf lock with
  | some g => { s with groupLocks := s.groupLocks.set g true }.done
  | none => if lock = 8#8 then { s with configLock := true }.done else s.answer .badArgument

/-- SET-IDENT at execution (R188). -/
def slotSetIdent (id : Word16) (s : State) : SlotResult :=
  match streamIdOf id with
  | none => s.answer .badArgument
  | some sid =>
    if (s.lookup .N sid).isSome then s.answer .duplicateKey
    else { s with mgmtId := sid }.done

end Sys2Proof.Machine
end

