-- ==== Sys2Proof/Machine/Reports.lean ====
section
/-! DEFINITION. The slot commands that report: identity, status, counters, lapses, diverted frames and
alerts, and ACK-EVENT (sections 10.2, 10.3 and 10.6). -/

namespace Sys2Proof.Machine

/-- IDENTIFY at execution (R175). -/
def slotIdentify (s : State) : SlotResult := ⟨.done, identityBytes, s⟩

/-- READ-STATUS at execution (R176). -/
def slotReadStatus (s : State) : SlotResult := ⟨.done, statusImage s, s⟩

/-- READ-ALERTS at execution (R195). -/
def slotReadAlerts (s : State) : SlotResult :=
  ⟨.done, [s.pendingCauses.byte, s.enables.byte, countByte s.pendingCauses.highest],
    { s with causes := { s.causes with poolExhausted := false, holdExpired := false } }⟩

/-- ACK-EVENT at execution (R163). -/
def slotAckEvent (s : State) : SlotResult :=
  { s with
    mgmt := { s.mgmt with heldEvent := false, escTimer := none, escalated := false }
    causes := { s.causes with linkEvent := false } }.done

/-- READ-COUNTERS of an entry (R177). A FREE entry returns seven zeros. -/
def readEntryCounters (i : Byte) (clear : Bool) (s : State) : SlotResult :=
  ⟨.done, [0#8, i] ++ (((s.entry i).map Entry.counters).getD .zero).bytes,
    if clear then s.modEntry i fun e => { e with counters := .zero } else s⟩

/-- READ-COUNTERS of a port (R177). -/
def readPortCounters (p : Port) (clear : Bool) (s : State) : SlotResult :=
  ⟨.done, [1#8, portCode p] ++ (s.port p).counters.bytes,
    if clear then s.modPort p fun ps => { ps with counters := .zero } else s⟩

/-- READ-COUNTERS at execution: target kind 0 an entry, 1 a port (R177). -/
def slotReadCounters (kind target clear : Byte) (s : State) : SlotResult :=
  match switchOf kind, switchOf clear with
  | some false, some c => readEntryCounters target c s
  | some true, some c =>
    match portOf target with
    | none => s.answer .badArgument
    | some p => readPortCounters p c s
  | _, _ => s.answer .badArgument

/-- READ-LAPSES at execution (R113). -/
def slotReadLapses (s : State) : SlotResult :=
  if s.lapseList.isEmpty ∧ ¬s.lapseOverflow then s.answer .empty
  else
    let taken := s.lapseList.take Config.lapsesPerRead
    let left := s.lapseList.drop Config.lapsesPerRead
    ⟨.done, [countByte taken.length, boolByte s.lapseOverflow, countByte left.length] ++ taken,
      { s with lapseList := left, lapseOverflow := false }⟩

/-- The data of a READ-DIVERTED answer, from the descriptor and the stored bytes (R181, R208). -/
def divertedBytes (d : DivertDescr) (bytes : List Byte) : List Byte :=
  let length := bytes.getD 4 0
  let payload := ((bytes.drop 5).take length.toNat).take Config.divertedPayload
  [portCode d.ingress, boolByte d.entry.isSome, d.entry.getD 0#8, bytes.getD 0 0 >>> 4,
    bytes.getD 1 0 &&& 0x0F#8, bytes.getD 2 0, bytes.getD 3 0, length,
    boolByte (decide (Config.divertedPayload < length.toNat))] ++ payload

/-- READ-DIVERTED at execution (R58, R181). -/
def slotReadDiverted (s : State) : SlotResult :=
  match s.divert with
  | [] => s.answer .empty
  | d :: rest => ⟨.done, divertedBytes d s.contents[d.buf], { s with divert := rest }.release d.buf⟩

end Sys2Proof.Machine
end

