-- ==== Sys2Proof/Machine/Settings.lean ====
section
/-! DEFINITION. The slot commands on the mode, the ports and the alert enables (sections 10.6 and
10.7). -/

namespace Sys2Proof.Machine

/-- SET-MODE at execution (R183). -/
def slotSetMode (mode : Byte) (s : State) : SlotResult :=
  match modeOf mode with
  | none => s.answer .badArgument
  | some m =>
    if s.freezeLow ∧ ¬m.isHalted then s.answer .frozen
    else (s.changeMode m).done

/-- The settings SET-PORT writes; the escalation time belongs to port N alone (R184). -/
def State.writePort (s : State) (p : Port) (set : PortSettings) (esc : Byte) : State :=
  let s1 := s.modPort p fun ps => { ps with settings := set }
  match p with
  | .N => { s1 with mgmt := { s1.mgmt with escTime := esc.toNat } }
  | .S => s1

/-- SET-PORT at execution (R136, R184). -/
def slotSetPort (a : PortArgs) (s : State) : SlotResult :=
  match portOf a.port, settingsOf a with
  | some p, some set =>
    if s.configLock then s.answer .locked else (s.writePort p set a.escalation).done
  | _, _ => s.answer .badArgument

/-- SET-ALERTS at execution (R182, R193). -/
def slotSetAlerts (enables : Byte) (s : State) : SlotResult :=
  if enables.getLsbD 6 ∨ enables.getLsbD 7 then s.answer .badArgument
  else if s.configLock then s.answer .locked
  else (s.alerting fun s => { s with enables := .ofByte enables }).done

/-- The start of a break on port S: any frame in transmission cut, with no ABORT (R10, R187). -/
def State.startBreak (s : State) : State := s.endTx .S .brk

/-- SEND-LINE-RESET at execution (R186). -/
def slotSendLineReset (port : Byte) (s : State) : SlotResult :=
  match portOf port with
  | some .S => s.startBreak.done
  | _ => s.answer .badArgument

end Sys2Proof.Machine
end

