-- ==== Sys2Proof/Machine/Reset.lean ====
section
/-! DEFINITION. Warm reset, cold reset and the start of the part (section 11.7). -/

namespace Sys2Proof.Machine

/-- A locked entry kept by warm reset: a SUSPENDED one as it stands, an active one re-armed, its
counters 0 (R39, R72). -/
def Entry.warmKept (e : Entry) : Entry :=
  { (if e.state.active then e.arm else e) with counters := .zero }

/-- An entry's fate at warm reset, by its group's lock (R39). -/
def warmEntry (locks : Vector Bool 8) : Option Entry → Option Entry
  | none => none
  | some e => if locks[e.group] then some e.warmKept else none

/-- A transmitter at warm reset: a cyclic or acyclic frame is abandoned (R129, R134). -/
def Tx.warm (tx : Tx) : Tx := if tx.sendsTraffic then .spacing .abort else tx

/-- A receiver at warm reset (R11, R15). -/
def Receiver.warm : Receiver → Receiver
  | .fill _ => .skip
  | r => r

/-- A port at warm reset; `kept` tells whether the configuration lock keeps its settings (R15, R17,
R134, R137, R149). -/
def PortState.warm (ps : PortState) (kept : Bool) : PortState :=
  { ps.restFlow with
    receiver := ps.receiver.warm
    counters := .zero
    settings := if kept then ps.settings else .defaults
    cyclic := []
    acyclic := []
    tx := ps.tx.warm }

/-- The management unit at warm reset (R173). -/
def Mgmt.warm (m : Mgmt) (kept : Bool) : Mgmt :=
  { Mgmt.cold with
    escTime := if kept then m.escTime else 0
    escalated := m.escalated
    linkEvents := m.linkEvents }

/-- A gate at warm reset (R39). -/
def warmGates (gates : Vector Gate 8) (locks : Vector Bool 8) : Vector Gate 8 :=
  Vector.ofFn fun g => if locks[g] then gates[g] else .opened

/-- Every block's warm reset but the freeze input's reading: all causes cleared, mode BYPASS (R202,
R39, R116, R134, R149, R173, R197). The whole pool is free again (R134). -/
def State.warmBlocks (s : State) : State :=
  { s with
    mode := .bypass
    portN := s.portN.warm s.configLock
    portS := s.portS.warm s.configLock
    table := mapTable s.table (warmEntry s.groupLocks)
    gates := warmGates s.gates s.groupLocks
    lapseList := []
    lapseOverflow := false
    free := allBuffers
    divert := []
    alertSlot := none
    mgmt := s.mgmt.warm s.configLock
    causes := .clear
    enables := if s.configLock then s.enables else .defaultEnables
    alertNumber := 0 }

/-- The mode controller's reading of the freeze input at a reset: asserted gives HALTED with cause
FREEZE and FROZEN set (R202, R203). -/
def State.readFreeze (s : State) : State :=
  if s.freezeLow then { s with mode := .halted .freeze }.setFrozen else s

/-- The warm reset (R202). -/
def State.warmReset (s : State) : State := s.warmBlocks.readFreeze

/-- The part starts, if the supply is good and the reset input deasserted (R203). -/
def State.start (s : State) : State := if s.running then s.readFreeze else s

/-- COLD_RESET: every operation ends without an answer, and the part is held at its cold-reset values
(R203). The freeze pin and the command queue stand outside the part. -/
def execColdReset (cause : ColdCause) (s : State) : Out :=
  match cause with
  | .powerUp => .next (State.cold s.resetLow false s.freezeLow s.pending)
  | .resetInput => .next (State.cold true s.powered s.freezeLow s.pending)

/-- RESET_DEASSERTED: the reset input goes high, and the part starts when the supply is good (R203). -/
def execResetDeasserted (s : State) : Out :=
  .next (if s.resetLow then { s with resetLow := false }.start else s)

/-- POWER_UP_START: the supply is in range and the clock has run, and the part starts when the reset
input is deasserted (R203). -/
def execPowerUpStart (s : State) : Out :=
  .next (if s.powered then s else { s with powered := true }.start)

/-- FREEZE_ASSERTED: a change of the pin's level; the part acts on it while it runs (R200, R203). -/
def execFreezeAsserted (s : State) : Out :=
  .next (if s.freezeLow then s else { s with freezeLow := true }.live State.freeze)

/-- FREEZE_DEASSERTED: the level is recorded (R200). -/
def execFreezeDeasserted (s : State) : Out := .next { s with freezeLow := false }

end Sys2Proof.Machine
end

