-- ==== Sys2Proof/Machine/Manage.lean ====
section
/-! DEFINITION. The management unit: responses, the two slots, admission, the bulk load, link events and
the immediate commands (chapter 9). -/

namespace Sys2Proof.Machine

/-! ### Responses -/

/-- The response to a request (R155). -/
def Request.reply (req : Request) (st : Status) (step : Nat) (data : List Byte) : Response :=
  ⟨req.streamId, req.tag, req.cmd.code, st, step, data⟩

/-- Whether the response queue has a free place (R153, R154). -/
def State.hasPlace (s : State) : Bool := decide (s.responses.length < Config.responseCapacity)

/-- A change of the management unit. -/
def State.modMgmt (s : State) (f : Mgmt → Mgmt) : State := { s with mgmt := f s.mgmt }

/-- A request that gets no response (R154, R157). -/
def State.unanswered (s : State) : State :=
  s.modMgmt fun m => { m with unanswered := satInc m.unanswered }

/-- A response placed at a request's arrival, or the request counted unanswered (R154). -/
def State.respondNow (s : State) (r : Response) : State :=
  if s.hasPlace then { s with responses := s.responses ++ [r] } else s.unanswered

/-- A slot command's built response: placed and the executing slot emptied, or kept waiting in it
(R153). -/
def State.finish (s : State) (r : Response) : State :=
  if s.hasPlace then
    { s with responses := s.responses ++ [r] }.modMgmt fun m => { m with executing := none }
  else s.modMgmt fun m => { m with executing := some (.built r) }

/-! ### Executing a slot command -/

/-- The count a BULK-LOAD argument gives: 0 means 256 (R167). -/
def bulkCount (n : Byte) : Nat := if n = 0#8 then 256 else n.toNat

/-- The start and count of a BULK-LOAD, or none when it is refused (R167). -/
def State.bulkPlan (s : State) (start : Word16) (count : Byte) : Option (Nat × Nat) :=
  if start = 0xFFFF#16 then
    if s.mgmt.nextIndex + s.mgmt.reload ≤ 256 then some (s.mgmt.nextIndex, s.mgmt.reload) else none
  else if start.toNat ≤ 255 ∧ start.toNat + bulkCount count ≤ 256 then
    some (start.toNat, bulkCount count)
  else none

/-- A BULK-LOAD enters its load phase (R167). The reload count is the count in either form. -/
def State.startLoad (s : State) (req : Request) (start count : Nat) : State :=
  s.modMgmt fun m =>
    { m with
      executing := some (.loading req)
      nextIndex := start
      remaining := count
      reload := count
      step := 0
      gapTimer := true }

/-- BULK-LOAD at execution (R167). -/
def State.runBulkLoad (s : State) (req : Request) (start : Word16) (count : Byte) : State :=
  match s.bulkPlan start count with
  | none => s.finish (req.reply .badArgument 0 [])
  | some (st, n) => s.startLoad req st n

/-- The effect of a slot command other than BULK-LOAD (R174). LOAD-DATA and the immediate commands
enter no slot (R152). -/
def runSlot (c : Command) (s : State) : SlotResult :=
  match c with
  | .identify => slotIdentify s
  | .readStatus => slotReadStatus s
  | .readAlerts => slotReadAlerts s
  | .ackEvent => slotAckEvent s
  | .setMode m => slotSetMode m s
  | .setPort a => slotSetPort a s
  | .setAlerts e => slotSetAlerts e s
  | .setIdent i => slotSetIdent i s
  | .setGate g o => slotSetGate g o s
  | .setLock l => slotSetLock l s
  | .sendLineReset p => slotSendLineReset p s
  | .writeEntry i r => slotWriteEntry i r s
  | .readEntry i => slotReadEntry i s
  | .freeEntry i => slotFreeEntry i s
  | .armEntry i => slotArmEntry i s
  | .suspendEntry i => slotSuspendEntry i s
  | .tuneEntry i r => slotTuneEntry i r s
  | .stepScale i d => slotStepScale i d s
  | .findEntry p i => slotFindEntry p i s
  | .readCounters k t cl => slotReadCounters k t cl s
  | .readLapses => slotReadLapses s
  | .readDiverted => slotReadDiverted s
  | .bulkLoad _ _ => s.done
  | .loadData _ => s.done
  | .abort => s.done
  | .halt => s.done
  | .resetWarm => s.done

/-- A request in the executing slot executes: a bulk load enters its load phase, any other command
makes its effect and completes when its response has a place (R152, R153, R174). -/
def State.execute (s : State) (req : Request) : State :=
  match req.cmd with
  | .bulkLoad start count => s.runBulkLoad req start count
  | c => (runSlot c s).state.finish (req.reply (runSlot c s).status 0 (runSlot c s).data)

/-- The waiting request moves up into an empty executing slot and executes (R152). -/
def State.moveUp (s : State) : State :=
  match s.mgmt.executing, s.mgmt.waiting with
  | none, some req => (s.modMgmt fun m => { m with waiting := none }).execute req
  | _, _ => s

/-- The command in the executing slot has its response; the waiting request follows (R152, R153). -/
def State.complete (s : State) (r : Response) : State := (s.finish r).moveUp

/-! ### The bulk load -/

/-- The end of a bulk load: remaining count 0, gap timer stopped, last load result recorded (R166). -/
def State.endLoad (s : State) (st : Status) : State :=
  s.modMgmt fun m =>
    { m with
      remaining := 0
      gapTimer := false
      lastLoad := some ⟨st, m.step, m.nextIndex⟩ }

/-- The load phase's BULK-LOAD ends and its response is built (R169 to R171). -/
def State.closeLoad (s : State) (bulk : Request) (st : Status) : State :=
  (s.endLoad st).complete (bulk.reply st s.mgmt.step [])

/-- The context after a written LOAD-DATA; the gap timer restarts (R168). -/
def State.advanceLoad (s : State) : State :=
  s.modMgmt fun m =>
    { m with step := m.step + 1, remaining := m.remaining - 1, nextIndex := m.nextIndex + 1 }

/-- A LOAD-DATA taken by the bulk load of `bulk` (R168 to R170). -/
def State.takeLoadData (s : State) (bulk req : Request) (rec : EntryRecord) : State :=
  if !s.hasPlace then s.unanswered
  else
    let i : Byte := BitVec.ofNat 8 s.mgmt.nextIndex
    match s.checkWrite i rec with
    | .error st => (s.respondNow (req.reply st s.mgmt.step [])).closeLoad bulk st
    | .ok e =>
      let s1 := (s.setEntry i (some e)).advanceLoad
      let s2 := s1.respondNow (req.reply .loaded s1.mgmt.step [])
      if s1.mgmt.remaining = 0 then s2.closeLoad bulk .done else s2

/-- A LOAD-DATA admitted by step 3 of R151. -/
def State.admitLoadData (s : State) (req : Request) (rec : EntryRecord) : State :=
  match s.mgmt.executing with
  | some (.loading bulk) => s.takeLoadData bulk req rec
  | _ => s.respondNow (req.reply .notLoading 0 [])

/-! ### Immediate commands -/

/-- ABORT's step on the executing slot: a bulk load ends ABORTED and its response is placed or waits; a
built response is left (R158 step 1). -/
def State.abortExecuting (s : State) : State :=
  match s.mgmt.executing with
  | some (.loading bulk) => (s.endLoad .aborted).finish (bulk.reply .aborted s.mgmt.step [])
  | _ => s

/-- The waiting request removed and answered ABORTED (R158 step 2, R160 step 1). -/
def State.abortWaiting (s : State) : State :=
  match s.mgmt.waiting with
  | some req =>
    (s.modMgmt fun m => { m with waiting := none }).respondNow (req.reply .aborted 0 [])
  | none => s

/-- ABORT (R158). -/
def State.takeAbort (s : State) (req : Request) : State :=
  s.abortExecuting.abortWaiting.respondNow (req.reply .done 0 [])

/-- HALT (R159). -/
def State.takeHalt (s : State) (req : Request) : State :=
  (s.changeMode (.halted .command)).respondNow (req.reply .done 0 [])

/-- The command in the executing slot answered ABORTED at once or not at all; a waiting response is
replaced (R160 step 1). -/
def State.dropExecuting (s : State) : State :=
  match s.mgmt.executing with
  | none => s
  | some (.loading bulk) =>
    ((s.endLoad .aborted).modMgmt fun m => { m with executing := none }).respondNow
      (bulk.reply .aborted s.mgmt.step [])
  | some (.built r) =>
    (s.modMgmt fun m => { m with executing := none }).respondNow
      { r with status := .aborted, data := [] }

/-- Both slots answered ABORTED, executing first (R160 step 1, R164 step 2). -/
def State.abortSlots (s : State) : State := s.dropExecuting.abortWaiting

/-- RESET-WARM (R160). -/
def State.takeResetWarm (s : State) (req : Request) : State :=
  (s.abortSlots.respondNow (req.reply .done 0 [])).warmReset

/-! ### Admission -/

/-- The commands admitted while HELD (R151 step 4). -/
def whileHeld : Command → Bool
  | .identify => true
  | .readStatus => true
  | .readAlerts => true
  | .ackEvent => true
  | _ => false

/-- A slot command at admission (R151 steps 4 and 5). -/
def State.admitSlot (s : State) (req : Request) : State :=
  if s.mgmt.heldEvent ∧ ¬whileHeld req.cmd then s.respondNow (req.reply .held 0 [])
  else
    match s.mgmt.executing, s.mgmt.waiting with
    | none, _ => (s.execute req).moveUp
    | some _, none => s.modMgmt fun m => { m with waiting := some req }
    | some _, some _ => s.respondNow (req.reply .busy 0 [])

/-- A request with a known code and length, decided at its arrival (R151 steps 2 to 5). -/
def State.takeRequest (s : State) (req : Request) : State :=
  match req.cmd with
  | .abort => s.takeAbort req
  | .halt => s.takeHalt req
  | .resetWarm => s.takeResetWarm req
  | .loadData rec => s.admitLoadData req rec
  | _ => s.admitSlot req

/-- The arrival of a request's command with a tag, carrying the management stream id (R150). -/
def State.takeCommand (s : State) (tag : Byte) (c : Command) : State := s.takeRequest ⟨s.mgmtId, tag, c⟩

/-- The refusal BAD_COMMAND, echoing the code or 0 (R151 step 1, R155). -/
def State.refuseBad (s : State) (tag : Byte) (payload : List Byte) : State :=
  s.respondNow ⟨s.mgmtId, tag, payload.headD 0, .badCommand, 0, []⟩

/-- The arrival of a request's payload (R150, R151). -/
def State.takePayload (s : State) (tag : Byte) (payload : List Byte) : State :=
  match parseCommand payload with
  | none => s.refuseBad tag payload
  | some c => s.takeCommand tag c

/-! ### Link events -/

/-- What both link-event rules discard: the slots, a bulk load's phase, the response queue and the alert
slot (R161, R162). -/
def State.discardHeld (s : State) : State :=
  let s1 :=
    match s.mgmt.executing with
    | some (.loading _) => s.endLoad .aborted
    | _ => s
  { s1.modMgmt fun m =>
      { m with executing := none, waiting := none, linkEvents := satInc m.linkEvents } with
    responses := []
    alertSlot := none }

/-- HELD set, and the escalation timer started when port N's escalation time is not 0 (R161). -/
def Mgmt.hold (m : Mgmt) : Mgmt :=
  { m with
    heldEvent := true
    escTimer := if m.escTime = 0 then m.escTimer else some m.escTime }

/-- A link event on port N (R161, R162). -/
def State.linkEvent (s : State) : State :=
  if s.mgmt.heldEvent then s.discardHeld
  else
    (s.discardHeld.modMgmt Mgmt.hold).alerting fun s =>
      { s with causes := { s.causes with linkEvent := true } }

end Sys2Proof.Machine
end

