-- ==== Sys2Proof/Machine/Receive.lean ====
section
/-! DEFINITION. The line symbols a receiver takes: SOF, data bytes, EOF with the hand-off, ABORT and IDLE
(R1, R8, R11 to R16, R144, R145). -/

namespace Sys2Proof.Machine

/-- A valid symbol other than IDLE: the UP count restarts and line reset detection is ready for a new
break (R1, R6, R8). -/
def PortState.symbol (ps : PortState) : PortState := { ps with upCount := 0, breakTaken := false }

/-- A receiver's state set. -/
def PortState.setReceiver (ps : PortState) (r : Receiver) : PortState := { ps with receiver := r }

/-- A SOF that finds no free buffer (R12). -/
def State.noBuffer (s : State) (p : Port) : State :=
  ((s.modPort p fun ps => ps.setReceiver .skip).count p .noBuffer).alerting fun s =>
    { s with causes := { s.causes with poolExhausted := true } }

/-- A SOF in HUNT or SKIP claims a buffer (R12). -/
def State.claim (s : State) (p : Port) : State :=
  match s.free with
  | [] => s.noBuffer p
  | b :: rest =>
    ({ s with free := rest }.store b []).modPort p fun ps => ps.setReceiver (.fill b)

/-- SOF by the receiver's state (R11, R12). -/
def State.takeSof (s : State) (p : Port) : State :=
  match (s.port p).receiver with
  | .off => s
  | .hunt => s.claim p
  | .skip => s.claim p
  | .fill b => (s.store b []).count p .errored

/-- SOF (R12). -/
def execSof (p : Port) (s : State) : Out :=
  .next (s.live fun s => (s.modPort p PortState.symbol).takeSof p)

/-- A data byte by the receiver's state (R11, R13). -/
def State.takeByte (s : State) (p : Port) (byte : Byte) : State :=
  match (s.port p).receiver with
  | .fill b =>
    if s.contents[b].length < Config.maxFrameBytes then s.store b (s.contents[b] ++ [byte])
    else ((s.release b).count p .errored).modPort p fun ps => ps.setReceiver .skip
  | _ => s

/-- DATA_BYTE (R13). -/
def execDataByte (p : Port) (byte : Byte) (s : State) : Out :=
  .next (s.live fun s => (s.modPort p PortState.symbol).takeByte p byte)

/-- Whether an intact frame is one of the part's own management requests (R16, R150). -/
def State.ownRequest (s : State) (p : Port) (f : Frame) : Bool :=
  f.kind == .mgmtReq && p == .N && f.streamId == s.mgmtId

/-- A PAUSE taken by the port's hold half (R144). -/
def State.takePause (s : State) (p : Port) : State := s.modPort p PortState.hold

/-- A RESUME taken by the port's hold half (R145). -/
def State.takeResume (s : State) (p : Port) : State := s.modPort p PortState.unhold

/-- The hand-off of an intact frame (R16). -/
def State.handOff (s : State) (p : Port) (f : Frame) (b : BufId) : State :=
  if f.kind = .pause then (s.release b).takePause p
  else if f.kind = .resume then (s.release b).takeResume p
  else if s.ownRequest p f then (s.release b).takePayload f.seq f.payload
  else s.classify p f b

/-- The test at EOF in FILL: errored and freed, or counted intact and handed on (R14, R16). -/
def State.endFill (s : State) (p : Port) (b : BufId) : State :=
  match parseFrame s.contents[b] with
  | none => ((s.release b).count p .errored).modPort p fun ps => ps.setReceiver .hunt
  | some f => ((s.count p .intact).modPort p fun ps => ps.setReceiver .hunt).handOff p f b

/-- EOF by the receiver's state (R11, R14). -/
def State.takeEof (s : State) (p : Port) : State :=
  match (s.port p).receiver with
  | .fill b => s.endFill p b
  | .skip => s.modPort p fun ps => ps.setReceiver .hunt
  | _ => s

/-- EOF (R14). -/
def execEof (p : Port) (s : State) : Out :=
  .next (s.live fun s => (s.modPort p PortState.symbol).takeEof p)

/-- The frame in progress on a port ends by ABORT, line reset or DOWN, and the receiver goes to `r`
(R15). -/
def State.cutReception (s : State) (p : Port) (r : Receiver) : State :=
  match (s.port p).receiver with
  | .fill b =>
    (((s.release b).count p .errored).count p .aborted).modPort p fun ps => ps.setReceiver r
  | _ => s.modPort p fun ps => ps.setReceiver r

/-- ABORT by the receiver's state (R11, R15). -/
def State.takeAbortSymbol (s : State) (p : Port) : State :=
  if (s.port p).isUp then s.cutReception p .hunt else s

/-- ABORT_RECEIVED (R15). -/
def execAbortReceived (p : Port) (s : State) : Out :=
  .next (s.live fun s => (s.modPort p PortState.symbol).takeAbortSymbol p)

/-- A port comes UP: its receiver enters HUNT (R8). -/
def PortState.comeUp (ps : PortState) : PortState :=
  { ps with receiver := .hunt, upCount := 0, breakTaken := false }

/-- An IDLE on a port: on a DOWN port it counts toward UP, and the hundredth in a row brings the port UP;
on an UP port it readies line reset detection (R1, R6, R8). -/
def PortState.idle (ps : PortState) : PortState :=
  if ps.isUp then { ps with breakTaken := false }
  else if Config.upIdles ≤ ps.upCount + 1 then ps.comeUp
  else { ps with upCount := ps.upCount + 1, breakTaken := false }

/-- IDLE_RECEIVED (R1, R8). -/
def execIdleReceived (p : Port) (s : State) : Out :=
  .next (s.live fun s => s.modPort p PortState.idle)

end Sys2Proof.Machine
end

