-- ==== Sys2Proof/Machine/Line.lean ====
section
/-! DEFINITION. Line reset, DOWN, UP and the hold timer (R6 to R9, R132, R146, R147). -/

namespace Sys2Proof.Machine

/-- What a line reset or DOWN does at the port's receiver, transmitter, queues and flow controller; the
receiver goes to `r` (R9, R15, R132, R147). -/
def State.portEvent (s : State) (p : Port) (r : Receiver) : State :=
  (((s.cutReception p r).abandon p).flushQueues p).modPort p PortState.restFlow

/-- The management unit's part of a line event: on port N a link event (R9, R161). -/
def State.linkPart (s : State) (p : Port) : State :=
  match p with
  | .N => s.linkEvent
  | .S => s

/-- A line reset taken on an UP port (R6, R9). -/
def State.takeLineReset (s : State) (p : Port) : State :=
  (((s.modPort p fun ps => { ps with breakTaken := true }).count p .lineResets).portEvent p
    .hunt).linkPart p

/-- A break of 50 µs by the port's state: one line reset a break on an UP port; on a DOWN port no event,
but the UP count restarts (R6, R8). -/
def State.takeBreak (s : State) (p : Port) : State :=
  if !(s.port p).isUp then s.modPort p fun ps => { ps with upCount := 0 }
  else if (s.port p).breakTaken then s
  else s.takeLineReset p

/-- LINE_RESET (R6). -/
def execLineReset (p : Port) (s : State) : Out := .next (s.live fun s => s.takeBreak p)

/-- An UP port goes DOWN (R7, R9). -/
def State.takeDown (s : State) (p : Port) : State :=
  if (s.port p).isUp then
    (((s.modPort p fun ps => { ps with upCount := 0 }).count p .downEvents).portEvent p .off).linkPart
      p
  else s

/-- PORT_DOWN (R7). -/
def execPortDown (p : Port) (s : State) : Out := .next (s.live fun s => s.takeDown p)

/-- A DOWN port comes UP; an UP port stays as it is (R8). -/
def PortState.takeUp (ps : PortState) : PortState := if ps.isUp then ps else ps.comeUp

/-- PORT_UP (R8). -/
def execPortUp (p : Port) (s : State) : Out := .next (s.live fun s => s.modPort p PortState.takeUp)

/-- The expiry of a running hold timer (R146). -/
def State.takeHoldExpiry (s : State) (p : Port) : State :=
  if (s.port p).holdTimer.isSome then
    ((s.modPort p PortState.unhold).count p .holdExpiries).alerting fun s =>
      { s with causes := { s.causes with holdExpired := true } }
  else s

/-- HOLD_TIMER_EXPIRY (R146). -/
def execHoldTimerExpiry (p : Port) (s : State) : Out := .next (s.live fun s => s.takeHoldExpiry p)

end Sys2Proof.Machine
end

