-- ==== Sys2Proof/Machine/Transmit.lean ====
section
/-! DEFINITION. The transmitters and their schedulers: starts, completions, spacing and the end of a
break (R10, R124 to R128). -/

namespace Sys2Proof.Machine

/-- The sources of a port that a transmission start may take (R125). -/
inductive Source where
  | control
  | response
  | alert
  | cyclic
  | acyclic
  deriving DecidableEq, Repr

/-- Whether a source of a port is eligible (R125). -/
def State.eligible (s : State) (p : Port) : Source → Bool
  | .control => (s.port p).controlSlot.isSome
  | .response => p == .N && !s.responses.isEmpty
  | .alert => p == .N && s.alertSlot.isSome
  | .cyclic => !(s.port p).cyclic.isEmpty && !s.mode.isHalted
  | .acyclic => !(s.port p).acyclic.isEmpty && !s.mode.isHalted && !(s.port p).held

/-- A port's order of choice (R126). The response queue and the alert slot are port N's alone. -/
def choiceOrder : Port → List Source
  | .N => [.control, .response, .alert, .cyclic, .acyclic]
  | .S => [.control, .cyclic, .acyclic]

/-- The source the scheduler takes (R126). -/
def State.choose (s : State) (p : Port) : Option Source := (choiceOrder p).find? (s.eligible p)

/-- A transmitter enters SENDING with a frame (R127). -/
def State.send (s : State) (p : Port) (o : Outgoing) : State :=
  s.modPort p fun ps => { ps with tx := .sending o }

/-- The port counter of a control frame's start (R142). -/
def Control.counter : Control → PortCounter
  | .pause => .pausesSent
  | .resume => .resumesSent

/-- The start from the control slot (R127, R142). -/
def State.startControl (s : State) (p : Port) : State :=
  match (s.port p).controlSlot with
  | none => s
  | some k =>
    ((s.modPort p fun ps => { ps with controlSlot := none }).count p k.counter).send p (.control k)

/-- The start from the response queue (R122, R127). -/
def State.startResponse (s : State) (p : Port) : State :=
  match s.responses with
  | [] => s
  | r :: rest => { s with responses := rest }.send p (.response r)

/-- The start from the alert slot (R127, R194). -/
def State.startAlert (s : State) (p : Port) : State :=
  match s.alertSlot with
  | none => s
  | some a => { s with alertSlot := none }.send p (.alert a)

/-- The start from the cyclic queue (R127). -/
def State.startCyclic (s : State) (p : Port) : State :=
  match (s.port p).cyclic with
  | [] => s
  | d :: rest => (s.modPort p fun ps => { ps with cyclic := rest }).send p (.cyclic d)

/-- The start from the acyclic queue, its removal reported to the opposite port's pause half (R127,
R141). -/
def State.startAcyclic (s : State) (p : Port) : State :=
  match (s.port p).acyclic with
  | [] => s
  | b :: rest =>
    ((s.modPort p fun ps => { ps with acyclic := rest }).send p (.acyclic b)).modPort p.opp fun ps =>
      ps.drainReport rest.length

/-- The start from a chosen source. -/
def State.startFrom (s : State) (p : Port) : Source → State
  | .control => s.startControl p
  | .response => s.startResponse p
  | .alert => s.startAlert p
  | .cyclic => s.startCyclic p
  | .acyclic => s.startAcyclic p

/-- A transmission start: taken when the transmitter is READY, the port UP and a source eligible
(R125). -/
def State.takeStart (s : State) (p : Port) : State :=
  if (s.port p).tx = .ready ∧ (s.port p).isUp then
    match s.choose p with
    | none => s
    | some src => s.startFrom p src
  else s

/-- TRANSMISSION_START (R127). -/
def execTransmissionStart (p : Port) (s : State) : Out := .next (s.live fun s => s.takeStart p)

/-- TRANSMISSION_COMPLETE: the EOF has been sent (R128). -/
def execTransmissionComplete (p : Port) (s : State) : Out :=
  .next (s.live fun s =>
    if (s.port p).tx.isSending then s.endTx p (.spacing .eof) else s)

/-- A transmitter at the end of SPACING (R124). -/
def Tx.afterSpacing : Tx → Tx
  | .spacing _ => .ready
  | tx => tx

/-- SPACING_END (R124). -/
def execSpacingEnd (p : Port) (s : State) : Out :=
  .next (s.live fun s => s.modPort p fun ps => { ps with tx := ps.tx.afterSpacing })

/-- A transmitter at the end of a break (R10, R124). -/
def Tx.afterBreak : Tx → Tx
  | .brk => .spacing .brk
  | tx => tx

/-- BREAK_END, on port S (R10). -/
def execBreakEnd (s : State) : Out :=
  .next (s.live fun s => s.modPort .S fun ps => { ps with tx := ps.tx.afterBreak })

/-- The bytes between SOF and EOF that a port is sending, if it is in SENDING (R2, R124). -/
def State.lineBytes (s : State) (p : Port) : Option (List Byte) :=
  match (s.port p).tx with
  | .sending o => some (o.bytes s.contents)
  | _ => none

end Sys2Proof.Machine
end

