-- ==== Sys2Proof/Machine/Cadence.lean ====
section
/-! DEFINITION. The cadence engine's commands: a tick expiry and a lapse (R64, R99, R101). -/

namespace Sys2Proof.Machine

/-- An operation on the tracker of a counting entry; at any other entry no tick is pending and nothing
happens (R63, R81). -/
def State.atCounting (s : State) (i : Byte) (f : Entry → Tracker → State) : State :=
  match s.entry i with
  | none => s
  | some e =>
    match e.tracker with
    | none => s
    | some t => if s.counting e then f e t else s

/-- TICK_EXPIRY, with the slow-down or lapse it brings (R64). -/
def execTickExpiry (i : Byte) (s : State) : Out :=
  .next (s.live fun s => s.atCounting i fun e t => s.takeTick i e t)

/-- LAPSE: the tracker of a counting entry reaches its deadline or repeat deadline with no arrival,
through whatever slow-downs stand before it, and lapses (R99, R101; assumption log 5). -/
def execLapse (i : Byte) (s : State) : Out :=
  .next (s.live fun s => s.atCounting i fun e t => s.takeLapse i e (t.untilLapse e.state))

end Sys2Proof.Machine
end

