-- ==== Sys2Proof/Machine/Requests.lean ====
section
/-! DEFINITION. The commands of the management unit: each request at its arrival with its tag, a waiting
completion, and the unit's two timers (R151, R153, R164, R171). -/

namespace Sys2Proof.Machine

/-- The arrival of a request at the management unit of a running part (R150, R151). DESIGN CHOICE,
unsafe (assumption log 18): the row is taken whatever port N's receiver is, OFF (port N DOWN) among
them, where no MGMT_REQ could be received; the spec does not say what the row means then. -/
def arrive (tag : Byte) (c : Command) (s : State) : Out := .next (s.live fun s => s.takeCommand tag c)

/-- IDENTIFY (R175). -/
def execIdentify (tag : Byte) (s : State) : Out := arrive tag .identify s

/-- READ-STATUS (R176). -/
def execReadStatus (tag : Byte) (s : State) : Out := arrive tag .readStatus s

/-- READ-ALERTS (R195). -/
def execReadAlerts (tag : Byte) (s : State) : Out := arrive tag .readAlerts s

/-- ACK-EVENT (R163). -/
def execAckEvent (tag : Byte) (s : State) : Out := arrive tag .ackEvent s

/-- SET-MODE (R183). -/
def execSetMode (tag mode : Byte) (s : State) : Out := arrive tag (.setMode mode) s

/-- SET-PORT (R184). -/
def execSetPort (tag : Byte) (args : PortArgs) (s : State) : Out := arrive tag (.setPort args) s

/-- SET-ALERTS (R182). -/
def execSetAlerts (tag enables : Byte) (s : State) : Out := arrive tag (.setAlerts enables) s

/-- WRITE-ENTRY (R22). -/
def execWriteEntry (tag index : Byte) (record : EntryRecord) (s : State) : Out :=
  arrive tag (.writeEntry index record) s

/-- READ-ENTRY (R179). -/
def execReadEntry (tag index : Byte) (s : State) : Out := arrive tag (.readEntry index) s

/-- FREE-ENTRY (R26). -/
def execFreeEntry (tag index : Byte) (s : State) : Out := arrive tag (.freeEntry index) s

/-- ARM-ENTRY (R24). -/
def execArmEntry (tag index : Byte) (s : State) : Out := arrive tag (.armEntry index) s

/-- SUSPEND-ENTRY (R25). -/
def execSuspendEntry (tag index : Byte) (s : State) : Out := arrive tag (.suspendEntry index) s

/-- TUNE-ENTRY (R85). -/
def execTuneEntry (tag index : Byte) (record : TuneRecord) (s : State) : Out :=
  arrive tag (.tuneEntry index record) s

/-- STEP-SCALE (R92). -/
def execStepScale (tag index direction : Byte) (s : State) : Out :=
  arrive tag (.stepScale index direction) s

/-- FIND-ENTRY (R180). -/
def execFindEntry (tag port : Byte) (streamId : Word16) (s : State) : Out :=
  arrive tag (.findEntry port streamId) s

/-- READ-COUNTERS (R177). -/
def execReadCounters (tag kind target clear : Byte) (s : State) : Out :=
  arrive tag (.readCounters kind target clear) s

/-- BULK-LOAD (R167). -/
def execBulkLoad (tag : Byte) (start : Word16) (count : Byte) (s : State) : Out :=
  arrive tag (.bulkLoad start count) s

/-- LOAD-DATA (R168). -/
def execLoadData (tag : Byte) (record : EntryRecord) (s : State) : Out :=
  arrive tag (.loadData record) s

/-- READ-LAPSES (R113). -/
def execReadLapses (tag : Byte) (s : State) : Out := arrive tag .readLapses s

/-- READ-DIVERTED (R181). -/
def execReadDiverted (tag : Byte) (s : State) : Out := arrive tag .readDiverted s

/-- SET-GATE (R32). -/
def execSetGate (tag group setting : Byte) (s : State) : Out := arrive tag (.setGate group setting) s

/-- SET-LOCK (R33). -/
def execSetLock (tag lock : Byte) (s : State) : Out := arrive tag (.setLock lock) s

/-- SET-IDENT (R188). -/
def execSetIdent (tag : Byte) (streamId : Word16) (s : State) : Out :=
  arrive tag (.setIdent streamId) s

/-- SEND-LINE-RESET (R186). -/
def execSendLineReset (tag port : Byte) (s : State) : Out := arrive tag (.sendLineReset port) s

/-- ABORT (R158). -/
def execAbort (tag : Byte) (s : State) : Out := arrive tag .abort s

/-- HALT (R159). -/
def execHalt (tag : Byte) (s : State) : Out := arrive tag .halt s

/-- RESET-WARM (R160). -/
def execResetWarm (tag : Byte) (s : State) : Out := arrive tag .resetWarm s

/-- BAD_COMMAND: the arrival of a request whose payload names no command or has the wrong length (R151
step 1). A payload that does spell a command is that command's arrival. -/
def execBadCommand (tag : Byte) (payload : List Byte) (s : State) : Out :=
  .next (s.live fun s => s.takePayload tag payload)

/-- A waiting completion taken when the response queue has a place (R153). -/
def State.takeCompletion (s : State) : State :=
  match s.mgmt.executing with
  | some (.built r) => if s.hasPlace then s.complete r else s
  | _ => s

/-- COMMAND_COMPLETION (R153). -/
def execCommandCompletion (s : State) : Out := .next (s.live State.takeCompletion)

/-- The expiry of a running gap timer ends the bulk load TIMEOUT (R171). -/
def State.takeGapExpiry (s : State) : State :=
  match s.mgmt.executing with
  | some (.loading bulk) => if s.mgmt.gapTimer then s.closeLoad bulk .timeout else s
  | _ => s

/-- GAP_TIMER_EXPIRY (R171). -/
def execGapTimerExpiry (s : State) : Out := .next (s.live State.takeGapExpiry)

/-- The expiry of a running escalation timer (R164). -/
def State.takeEscalation (s : State) : State :=
  if s.mgmt.escTimer.isSome then
    ((s.modMgmt fun m => { m with escTimer := none, escalated := true }).abortSlots).warmReset
  else s

/-- ESCALATION (R164). -/
def execEscalation (s : State) : Out := .next (s.live State.takeEscalation)

end Sys2Proof.Machine
end

