-- ==== Sys2Proof/Machine/Dispatch.lean ====
section
/-! DEFINITION. The dispatch: one arm per command, each a direct call of its meaning. -/

namespace Sys2Proof.Machine

def exec (i : Instr) (s : State) : Host.Outcome State Fault Refusal :=
  match i with
  | .sof p => Sys2Proof.Machine.execSof p s
  | .dataByte p b => Sys2Proof.Machine.execDataByte p b s
  | .eof p => Sys2Proof.Machine.execEof p s
  | .abortReceived p => Sys2Proof.Machine.execAbortReceived p s
  | .holdTimerExpiry p => Sys2Proof.Machine.execHoldTimerExpiry p s
  | .lineReset p => Sys2Proof.Machine.execLineReset p s
  | .portDown p => Sys2Proof.Machine.execPortDown p s
  | .portUp p => Sys2Proof.Machine.execPortUp p s
  | .breakEnd => Sys2Proof.Machine.execBreakEnd s
  | .tickExpiry index => Sys2Proof.Machine.execTickExpiry index s
  | .lapse index => Sys2Proof.Machine.execLapse index s
  | .spacingEnd p => Sys2Proof.Machine.execSpacingEnd p s
  | .transmissionStart p => Sys2Proof.Machine.execTransmissionStart p s
  | .transmissionComplete p => Sys2Proof.Machine.execTransmissionComplete p s
  | .commandCompletion => Sys2Proof.Machine.execCommandCompletion s
  | .badCommand tag payload => Sys2Proof.Machine.execBadCommand tag payload s
  | .identify tag => Sys2Proof.Machine.execIdentify tag s
  | .readStatus tag => Sys2Proof.Machine.execReadStatus tag s
  | .readAlerts tag => Sys2Proof.Machine.execReadAlerts tag s
  | .ackEvent tag => Sys2Proof.Machine.execAckEvent tag s
  | .setMode tag mode => Sys2Proof.Machine.execSetMode tag mode s
  | .setPort tag args => Sys2Proof.Machine.execSetPort tag args s
  | .setAlerts tag enables => Sys2Proof.Machine.execSetAlerts tag enables s
  | .writeEntry tag index record => Sys2Proof.Machine.execWriteEntry tag index record s
  | .readEntry tag index => Sys2Proof.Machine.execReadEntry tag index s
  | .freeEntry tag index => Sys2Proof.Machine.execFreeEntry tag index s
  | .armEntry tag index => Sys2Proof.Machine.execArmEntry tag index s
  | .suspendEntry tag index => Sys2Proof.Machine.execSuspendEntry tag index s
  | .tuneEntry tag index record => Sys2Proof.Machine.execTuneEntry tag index record s
  | .stepScale tag index direction => Sys2Proof.Machine.execStepScale tag index direction s
  | .findEntry tag port streamId => Sys2Proof.Machine.execFindEntry tag port streamId s
  | .readCounters tag kind target clear => Sys2Proof.Machine.execReadCounters tag kind target clear s
  | .bulkLoad tag start count => Sys2Proof.Machine.execBulkLoad tag start count s
  | .loadData tag record => Sys2Proof.Machine.execLoadData tag record s
  | .gapTimerExpiry => Sys2Proof.Machine.execGapTimerExpiry s
  | .readLapses tag => Sys2Proof.Machine.execReadLapses tag s
  | .readDiverted tag => Sys2Proof.Machine.execReadDiverted tag s
  | .setGate tag group setting => Sys2Proof.Machine.execSetGate tag group setting s
  | .setLock tag lock => Sys2Proof.Machine.execSetLock tag lock s
  | .setIdent tag streamId => Sys2Proof.Machine.execSetIdent tag streamId s
  | .sendLineReset tag port => Sys2Proof.Machine.execSendLineReset tag port s
  | .abort tag => Sys2Proof.Machine.execAbort tag s
  | .halt tag => Sys2Proof.Machine.execHalt tag s
  | .resetWarm tag => Sys2Proof.Machine.execResetWarm tag s
  | .escalation => Sys2Proof.Machine.execEscalation s
  | .freezeAsserted => Sys2Proof.Machine.execFreezeAsserted s
  | .freezeDeasserted => Sys2Proof.Machine.execFreezeDeasserted s
  | .coldReset cause => Sys2Proof.Machine.execColdReset cause s
  | .resetDeasserted => Sys2Proof.Machine.execResetDeasserted s
  | .powerUpStart => Sys2Proof.Machine.execPowerUpStart s
  | .idleReceived p => Sys2Proof.Machine.execIdleReceived p s

end Sys2Proof.Machine
end

