-- ==== Sys2Proof/Safety.lean ====
section
/-! DEFINITION. What a safe step is, the laws the part keeps at every step, and the conditions on a state
that the statements name: a ready management unit, a frame at hand-off, a counting entry. -/

namespace Sys2Proof.Machine

/-! ### Safe steps -/

/-- A safe step answers a next state: it neither faults nor refuses. -/
def State.SafeStep (s : State) : Prop := ∃ t, step s = .next t

/-! ### The buffer law (R118) -/

/-- The buffer a receiver fills. -/
def Receiver.bufs : Receiver → List BufId
  | .fill b => [b]
  | _ => []

/-- The buffers a port holds: in its receiver, its two queues and its transmitter. -/
def PortState.bufs (ps : PortState) : List BufId :=
  ps.receiver.bufs ++ descrBufs ps.cyclic ++ ps.acyclic ++ ps.tx.bufs

/-- Every buffer the part accounts for, place by place: free, at port N, at port S, in the divert
queue. -/
def State.placedBufs (s : State) : List BufId :=
  s.free ++ s.portN.bufs ++ s.portS.bufs ++ s.divert.map DivertDescr.buf

/-- Each of the 160 buffers is in exactly one place (R118). -/
def State.BufferLaw (s : State) : Prop := s.placedBufs.Perm allBuffers

/-! ### The content law (R14, R16, R57) -/

/-- The buffers a port's FRAME descriptors and transmitter name. -/
def PortState.frameBufs (ps : PortState) : List BufId :=
  descrBufs ps.cyclic ++ ps.acyclic ++ ps.tx.bufs

/-- Every buffer that a FRAME descriptor of a queue, a divert descriptor or a transmission names. -/
def State.frameBufs (s : State) : List BufId :=
  s.portN.frameBufs ++ s.portS.frameBufs ++ s.divert.map DivertDescr.buf

/-- Every buffer past its reception holds an intact frame of a kind that is handed to the classifier
(R14, R16), and no buffer holds more than 247 bytes (R13). -/
def State.ContentLaw (s : State) : Prop :=
  (∀ b ∈ s.frameBufs,
      ∃ f, parseFrame s.contents[b] = some f ∧ f.kind ≠ .pause ∧ f.kind ≠ .resume) ∧
    ∀ b : BufId, s.contents[b].length ≤ 247

/-! ### The queue law (R120) -/

/-- No queue holds more than its capacity (R120). -/
def State.QueueLaw (s : State) : Prop :=
  (∀ p, (s.port p).cyclic.length ≤ 32 ∧ (s.port p).acyclic.length ≤ 64) ∧
    s.divert.length ≤ 16 ∧ s.responses.length ≤ 8

/-! ### The lapse list law (R110) -/

/-- The lapse list holds at most 32 indices, none twice, and only indices of LAPSED entries (R110). -/
def State.LapseListLaw (s : State) : Prop :=
  s.lapseList.length ≤ 32 ∧ s.lapseList.Nodup ∧
    ∀ i ∈ s.lapseList, ∃ e, s.entry i = some e ∧ e.state = .lapsed

/-! ### The key law (R21) -/

/-- No two written entries hold one key, and none holds port N with the management stream id (R21). -/
def State.KeyLaw (s : State) : Prop :=
  (∀ i j e f, s.entry i = some e → s.entry j = some f →
      e.keyPort = f.keyPort → e.streamId = f.streamId → i = j) ∧
    ∀ i e, s.entry i = some e → ¬(e.keyPort = .N ∧ e.streamId = s.mgmtId)

/-! ### The ranges of entries and trackers (R61, R62) -/

/-- The fields of a tuning record are in their ranges (R85). -/
def Tune.InRange (u : Tune) : Prop :=
  (∀ w, u.weight = some w → 1 ≤ w ∧ w ≤ 255) ∧
    (∀ m, u.missLimit = some m → 1 ≤ m ∧ m ≤ 15) ∧
    ∀ d, u.fixedDeadline = some d → 1 ≤ d ∧ d ≤ 255

/-- The settings of a tracker are in their ranges (R61). -/
def Tracker.SettingsInRange (t : Tracker) : Prop :=
  t.baseExp ≤ 15 ∧ (1 ≤ t.seed ∧ t.seed ≤ 255) ∧ (1 ≤ t.weight ∧ t.weight ≤ 255) ∧
    (1 ≤ t.fixedDeadline ∧ t.fixedDeadline ≤ 255) ∧ (1 ≤ t.missLimit ∧ t.missLimit ≤ 15)

/-- The four ranges of R62, and those of the captures. -/
def Tracker.RunningInRange (t : Tracker) : Prop :=
  t.exp ≤ 15 ∧ t.elapsed ≤ 255 ∧ (1 ≤ t.deadline ∧ t.deadline ≤ 255) ∧ t.misses ≤ t.missLimit ∧
    t.last ≤ 255 ∧ t.prev ≤ 255

/-- What an entry's state says of its tracker's counts: elapsed stands below the deadline that is
awaited, and the miss run is as long as the state allows (R64, R101, R107). -/
def Tracker.FitsState (t : Tracker) : EntryState → Prop
  | .suspended => True
  | .armed => t.misses = 0
  | .tracking => t.elapsed < t.deadline ∧ t.misses = 0
  | .overdue => t.elapsed < t.repeatDeadline ∧ 1 ≤ t.misses ∧ t.misses < t.missLimit
  | .lapsed => t.elapsed = 0 ∧ t.misses = t.missLimit

/-- A tracker as it may stand in an entry of state `st` (R61, R62, R88, R90). -/
def Tracker.Sound (t : Tracker) (st : EntryState) : Prop :=
  t.SettingsInRange ∧ t.RunningInRange ∧ t.FitsState st ∧
    (t.mode = .learn → t.scaleUp = false ∧ t.scaleDown = false) ∧
    ∀ u, t.preload = some u → u.InRange ∧ u.isEmpty = false

/-- An entry without a tracker is never OVERDUE or LAPSED (R29); a tracker is sound; expected seq is
absent while the sequence check is OFF (R50). -/
def Entry.Sound (e : Entry) : Prop :=
  (e.seqCheck = false → e.expSeq = none) ∧
    (e.tracker = none → e.state ≠ .overdue ∧ e.state ≠ .lapsed) ∧
    ∀ t, e.tracker = some t → t.Sound e.state

/-- Every written entry is sound. -/
def State.TableLaw (s : State) : Prop := ∀ i e, s.entry i = some e → e.Sound

/-! ### The port law (R132, R138, R141, R144, R147) -/

/-- A port's settings are in their ranges (R136). -/
def PortSettings.InRange (st : PortSettings) : Prop :=
  (2 ≤ st.upper ∧ st.upper ≤ 64) ∧ st.lower ≤ 63 ∧ st.lower < st.upper ∧
    (st.pauseRepeat = 1 ∨ st.pauseRepeat = 4 ∨ st.pauseRepeat = 8 ∨ st.pauseRepeat = 16) ∧
    (1 ≤ st.holdTimeout ∧ st.holdTimeout ≤ 255)

/-- The flow controller of a port: the re-send count is 0 in OPEN and at most 15, an unsent RESUME
stands with OPEN, and the hold timer runs exactly while the port is held (R138, R141, R144). -/
def PortState.FlowSound (ps : PortState) : Prop :=
  (ps.pauseState = .opened → ps.resend = 0) ∧ ps.resend ≤ 15 ∧
    (ps.controlSlot = some .resume → ps.pauseState = .opened) ∧
    (ps.held = true ↔ ps.holdTimer ≠ none) ∧ ps.settings.InRange

/-- A DOWN port's queues and control slot are empty, its flow controller rests and it sends no frame
(R132, R147). -/
def PortState.DownRests (ps : PortState) : Prop :=
  ps.receiver = .off →
    ps.cyclic = [] ∧ ps.acyclic = [] ∧ ps.controlSlot = none ∧ ps.pauseState = .opened ∧
      ps.held = false ∧ ps.tx.isSending = false

/-- Both ports' flow controllers are sound and a DOWN port rests. -/
def State.PortLaw (s : State) : Prop := ∀ p, (s.port p).FlowSound ∧ (s.port p).DownRests

/-! ### The management law (R152, R161, R164, R166) -/

/-- The commands that enter a slot (R152). -/
def isSlotCommand : Command → Bool
  | .loadData _ => false
  | .abort => false
  | .halt => false
  | .resetWarm => false
  | _ => true

/-- The load phase: its counts add up and it runs its gap timer, and outside it nothing remains to be
written and the timer is stopped (R166, R171). -/
def Mgmt.LoadLaw (m : Mgmt) : Prop :=
  m.nextIndex ≤ 256 ∧ (1 ≤ m.reload ∧ m.reload ≤ 256) ∧ m.step ≤ 256 ∧
    match m.executing with
    | some (.loading _) =>
      m.gapTimer = true ∧ 1 ≤ m.remaining ∧ m.step + m.remaining = m.reload ∧
        m.nextIndex + m.remaining ≤ 256
    | _ => m.gapTimer = false ∧ m.remaining = 0

/-- The slots: nothing waits behind an empty executing slot, and what waits is a slot command, while
HELD one that HELD admits (R151, R152). -/
def Mgmt.SlotLaw (m : Mgmt) : Prop :=
  (m.executing = none → m.waiting = none) ∧
    ∀ req, m.waiting = some req →
      isSlotCommand req.cmd = true ∧ (m.heldEvent = true → whileHeld req.cmd = true)

/-- HELD: no load phase runs, the escalation timer runs only then, and LINK_EVENT is pending exactly
then (R161 to R164, R190). -/
def State.HeldLaw (s : State) : Prop :=
  (s.mgmt.heldEvent = true → ∀ req, s.mgmt.executing ≠ some (.loading req)) ∧
    (s.mgmt.escTimer ≠ none → s.mgmt.heldEvent = true) ∧
    s.causes.linkEvent = s.mgmt.heldEvent

/-- The management unit's law. -/
def State.MgmtLaw (s : State) : Prop := s.mgmt.LoadLaw ∧ s.mgmt.SlotLaw ∧ s.HeldLaw

/-! ### The mode law (R63, R133, R190, R200, R203) -/

/-- While the part is held in reset it stands at its cold-reset values (R203). -/
def State.ColdHold (s : State) : Prop :=
  s.running = false → s = State.cold s.resetLow s.powered s.freezeLow s.pending

/-- In HALTED the four cyclic and acyclic queues are empty and neither port sends a frame from one
(R133). -/
def State.HaltedQuiet (s : State) : Prop :=
  s.mode.isHalted = true →
    ∀ p, (s.port p).cyclic = [] ∧ (s.port p).acyclic = [] ∧ (s.port p).tx.sendsTraffic = false

/-- Every TRACKING or OVERDUE entry counts: the mode is RUN and its gate is OPEN (R63). -/
def State.TrackedCount (s : State) : Prop :=
  ∀ i e, s.entry i = some e → e.state.tracked = true → s.mode = .run ∧ s.gateOf e = .opened

/-- The mode controller's law: a part held in reset stands cold, HALTED is quiet, tracked entries count,
FROZEN is pending only in HALTED (R190), and a running part with the freeze input asserted is HALTED
(R200). -/
def State.ModeLaw (s : State) : Prop :=
  s.ColdHold ∧ s.HaltedQuiet ∧ s.TrackedCount ∧
    (s.causes.frozen = true → s.mode.isHalted = true) ∧
    (s.running = true → s.freezeLow = true → s.mode.isHalted = true)

/-! ### Conditions and results that statements name -/

/-- The tag and the command of a request row; none for every other row. -/
def requestOf : Instr → Option (Byte × Command)
  | .identify tag => some (tag, .identify)
  | .readStatus tag => some (tag, .readStatus)
  | .readAlerts tag => some (tag, .readAlerts)
  | .ackEvent tag => some (tag, .ackEvent)
  | .setMode tag m => some (tag, .setMode m)
  | .setPort tag a => some (tag, .setPort a)
  | .setAlerts tag e => some (tag, .setAlerts e)
  | .writeEntry tag i r => some (tag, .writeEntry i r)
  | .readEntry tag i => some (tag, .readEntry i)
  | .freeEntry tag i => some (tag, .freeEntry i)
  | .armEntry tag i => some (tag, .armEntry i)
  | .suspendEntry tag i => some (tag, .suspendEntry i)
  | .tuneEntry tag i r => some (tag, .tuneEntry i r)
  | .stepScale tag i d => some (tag, .stepScale i d)
  | .findEntry tag p i => some (tag, .findEntry p i)
  | .readCounters tag k t c => some (tag, .readCounters k t c)
  | .bulkLoad tag st n => some (tag, .bulkLoad st n)
  | .loadData tag r => some (tag, .loadData r)
  | .readLapses tag => some (tag, .readLapses)
  | .readDiverted tag => some (tag, .readDiverted)
  | .setGate tag g o => some (tag, .setGate g o)
  | .setLock tag l => some (tag, .setLock l)
  | .setIdent tag i => some (tag, .setIdent i)
  | .sendLineReset tag p => some (tag, .sendLineReset p)
  | .abort tag => some (tag, .abort)
  | .halt tag => some (tag, .halt)
  | .resetWarm tag => some (tag, .resetWarm)
  | _ => none

/-- A port after a line reset or DOWN: a frame in reception counted errored and aborted, the receiver at
`r`, both data queues empty, the flow controller at rest, a frame in transmission abandoned (R9, R15,
R132, R147). -/
def PortState.afterEvent (ps : PortState) (r : Receiver) : PortState :=
  { ps with
    receiver := r
    counters :=
      match ps.receiver with
      | .fill _ =>
        { ps.counters with
          errored := satInc ps.counters.errored
          aborted := satInc ps.counters.aborted }
      | _ => ps.counters
    pauseState := .opened
    resend := 0
    held := false
    holdTimer := none
    controlSlot := none
    cyclic := []
    acyclic := []
    tx := if ps.tx.isSending then .spacing .abort else ps.tx }

/-- A port whose measured queue was flushed: a PAUSED one places RESUME (R141). -/
def PortState.afterFlush (ps : PortState) : PortState :=
  if ps.pauseState = .paused then
    { ps with pauseState := .opened, resend := 0, controlSlot := some .resume }
  else ps

/-- Nothing is eligible on port `p` ahead of its cyclic queue (R126). -/
def State.HigherIdle (s : State) (p : Port) : Prop :=
  (s.port p).controlSlot = none ∧ (p = .N → s.responses = [] ∧ s.alertSlot = none)

/-- A running part whose management unit executes and answers a slot command at its arrival: both slots
are empty and the response queue has a place (R152, R153). -/
def State.Idle (s : State) : Prop :=
  s.running = true ∧ s.mgmt.executing = none ∧ s.mgmt.waiting = none ∧ s.responses.length < 8

/-- `State.Idle`, and not HELD, so that every slot command is admitted (R151). -/
def State.Ready (s : State) : Prop := s.Idle ∧ s.mgmt.heldEvent = false

/-- A response to a request with the present management stream id, placed behind the others (R153 to
R155). -/
def State.replied (s : State) (tag code : Byte) (status : Status) (step : Nat) (data : List Byte) :
    State :=
  { s with responses := s.responses ++ [⟨s.mgmtId, tag, code, status, step, data⟩] }

/-- What a claim from `s` to `t` leaves in the alert slot and the alert number: an ALERT with the next
number when the active set became non-empty and the slot was empty, and otherwise both as they were
(R193). -/
def State.Alerted (s t : State) : Prop :=
  if s.anyActive = false ∧ t.anyActive = true ∧ s.alertSlot = none then
    t.alertNumber = s.alertNumber + 1 ∧
      t.alertSlot =
        some ⟨s.mgmtId, s.alertNumber + 1, t.pendingCauses.highest, t.pendingCauses⟩
  else t.alertNumber = s.alertNumber ∧ t.alertSlot = s.alertSlot

/-- The state once response `r` of the executing slot's command is built: with 8 responses queued it
waits in the slot (R153); otherwise it is placed, the slot empties, and a waiting request moves up and
executes (R152). -/
def State.completed (s : State) (r : Response) : State :=
  if 8 ≤ s.responses.length then
    { s with mgmt := { s.mgmt with executing := some (.built r) } }
  else
    let t :=
      { s with
        responses := s.responses ++ [r]
        mgmt := { s.mgmt with executing := none, waiting := none } }
    match s.mgmt.waiting with
    | none => t
    | some req => t.execute req

/-- Responses placed at once in their order: those that find no place are not placed (R154). -/
def State.placedAtOnce (s : State) (rs : List Response) : List Response :=
  s.responses ++ rs.take (8 - s.responses.length)

/-- The answer that aborts the waiting request, if there is one (R158, R160). -/
def State.abortedWaiting (s : State) : List Response :=
  match s.mgmt.waiting with
  | none => []
  | some req => [req.reply .aborted 0 []]

/-- The answers step 1 of R160 gives the slots: a bulk load with its step, a waiting built response
replaced, and then the waiting request, each ABORTED. -/
def State.abortedSlots (s : State) : List Response :=
  (match s.mgmt.executing with
    | none => []
    | some (.loading bulk) => [bulk.reply .aborted s.mgmt.step []]
    | some (.built r) => [{ r with status := .aborted, data := [] }]) ++
    s.abortedWaiting

/-! ### The numbers of the code tables, as the statements give them -/

/-- The kind codes of R4's table. -/
def KindCodes : Prop :=
  Kind.data.code = 1 ∧ Kind.marker.code = 2 ∧ Kind.pause.code = 3 ∧ Kind.resume.code = 4 ∧
    Kind.mgmtReq.code = 5 ∧ Kind.mgmtRsp.code = 6 ∧ Kind.alert.code = 7

/-- The status codes of R207's table. -/
def StatusCodes : Prop :=
  Status.done.code = 0x00 ∧ Status.loaded.code = 0x01 ∧ Status.empty.code = 0x02 ∧
    Status.busy.code = 0x10 ∧ Status.held.code = 0x11 ∧ Status.badCommand.code = 0x12 ∧
    Status.badArgument.code = 0x13 ∧ Status.locked.code = 0x14 ∧
    Status.duplicateKey.code = 0x15 ∧ Status.entryState.code = 0x16 ∧
    Status.notLoading.code = 0x17 ∧ Status.aborted.code = 0x18 ∧ Status.timeout.code = 0x19 ∧
    Status.frozen.code = 0x1A

/-- A cause set as one byte: bit 0 LINK_EVENT, bit 1 FROZEN, bit 2 POOL_EXHAUSTED, bit 3 LAPSE, bit 4
HOLD_EXPIRED, bit 5 DIVERTED, bits 6 and 7 zero (R204). -/
def CauseBits : Prop :=
  ∀ (c : CauseSet) (n : Nat),
    c.byte.getLsbD n =
      [c.linkEvent, c.frozen, c.poolExhausted, c.lapse, c.holdExpired, c.diverted].getD n false

/-- The state codes of R208 for a written entry; 0 is FREE. -/
def StateCodes : Prop :=
  stateCode .suspended = 1 ∧ stateCode .armed = 2 ∧ stateCode .tracking = 3 ∧
    stateCode .overdue = 4 ∧ stateCode .lapsed = 5

/-- The port codes of R206. -/
def PortCodes : Prop := portCode .N = 0 ∧ portCode .S = 1

/-- The codes of an entry's fields in R206's entry record; cadence mode 0 is OFF. -/
def EntryFieldCodes : Prop :=
  (actionCode .forward = 0 ∧ actionCode .drop = 1 ∧ actionCode .divert = 2) ∧
    (classCode .cyclic = 0 ∧ classCode .acyclic = 1) ∧
    (trackModeCode .fixed = 1 ∧ trackModeCode .learn = 2) ∧
    (basisCode .last = 0 ∧ basisCode .previous = 1) ∧
    (gapPolicyCode .mark = 0 ∧ gapPolicyCode .silent = 1)

/-- Fields of two and of four bytes are sent high byte first (R204). -/
def HighByteFirst : Prop :=
  (∀ hi lo : Byte, be16 (hi ++ lo) = [hi, lo]) ∧
    ∀ b3 b2 b1 b0 : Byte, be32 (b3 ++ b2 ++ b1 ++ b0) = [b3, b2, b1, b0]

/-- The receiver of port `p` fills buffer `b`, and the part runs. -/
def State.Filling (s : State) (p : Port) (b : BufId) : Prop :=
  s.running = true ∧ (s.port p).receiver = .fill b

/-- Buffer `b`, filled on port `p`, holds the intact frame `f`, and it is traffic (R14, R16). -/
def State.HoldsTraffic (s : State) (p : Port) (b : BufId) (f : Frame) : Prop :=
  s.Filling p b ∧ parseFrame s.contents[b] = some f ∧ f.kind ≠ .pause ∧ f.kind ≠ .resume ∧
    s.ownRequest p f = false

/-- Port `p` after an intact frame's EOF: HUNT, the frame counted (R14). A valid symbol other than IDLE
also restarts the UP count and readies line reset detection (R1, R6). -/
def State.received (s : State) (p : Port) : State :=
  s.modPort p fun ps =>
    { ps with
      receiver := .hunt
      upCount := 0
      breakTaken := false
      counters := { ps.counters with intact := satInc ps.counters.intact } }

/-- Entry `i` is written with tracker `t` and counts, in a running part (R63). -/
def State.Counts (s : State) (i : Byte) (e : Entry) (t : Tracker) : Prop :=
  s.running = true ∧ s.entry i = some e ∧ e.tracker = some t ∧ e.state.tracked = true ∧
    s.mode = .run ∧ s.gateOf e = .opened

end Sys2Proof.Machine
end

