-- ==== Sys2Proof/WellFormed.lean ====
section
/-! DEFINITION. Which commands can be sent. Argument bytes out of range are no ill-formed command:
the part refuses them itself (R174). Only BAD_COMMAND carries something to check. -/

namespace Sys2Proof

/-- A payload that admission refuses BAD_COMMAND: no code, an unknown code or a wrong length (R151). -/
def badPayload (payload : List Byte) : Bool :=
  match payload with
  | [] => true
  | c :: _ => requestLength c != some payload.length

/-- A command the part can be sent: BAD_COMMAND's payload fits a frame (R3) and is one that names no
request (R151). -/
def Instr.wellFormed : Instr → Bool
  | .badCommand _ payload => decide (payload.length ≤ Config.maxPayload) && badPayload payload
  | _ => true

end Sys2Proof
end

