-- ==== Sys2Proof/Certificates/Slice0/Obligations.lean ====
section
/-! DEFINITION. The statements for the provers. Each is a closed proposition over the model's own
definitions; a docstring names the rules it rests on and any choice of the model. -/

section Slice0Statements

open Sys2Proof
open Sys2Proof.Machine

/-! ### Steps, the queue and reset -/

/-- One step takes the command at the front of the queue, on the state with the queue's rest; an empty
queue idles (assumption logs 3 and 13). -/
def Obligations.StepTakesTheFrontCommand : Prop :=
  (∀ (c : Instr) (rest : List Instr) (s : State),
      step { s with pending := c :: rest } = exec c { s with pending := rest }) ∧
    ∀ s : State, s.pending = [] → step s = .next s

/-- Every command, in every state, answers a next state and leaves the queue as it was. That a
command whose event cannot occur (R63, R125, R146, R153, R171) answers the state unchanged is the
model's reading (assumption log 2), and so is that COLD_RESET (R203) keeps the queue (assumption log
10). -/
def Obligations.EveryCommandAnswersNextAndKeepsTheQueue : Prop :=
  ∀ (c : Instr) (s : State), ∃ t : State, exec c s = .next t ∧ t.pending = s.pending

/-- COLD_RESET leaves every block at its cold-reset value, by either cause (R8, R11, R17, R38, R115,
R117, R120, R123, R124, R136, R149, R166, R173, R192, R197), the mode controller at BYPASS with no halt
cause (R198, R203), and the reset state is such a part with both pins deasserted and the supply good.
Empty buffer contents, line reset detection, the mode BYPASS while held and the reset state's pin
levels are the model's choice (assumption log 7), and so is that the pins' levels and the command
queue outlive the reset (assumption log 10). -/
def Obligations.ColdResetLeavesTheColdValues : Prop :=
  (∀ s : State, exec (.coldReset .resetInput) s =
      .next (State.cold true s.powered s.freezeLow s.pending)) ∧
    (∀ s : State, exec (.coldReset .powerUp) s =
      .next (State.cold s.resetLow false s.freezeLow s.pending)) ∧
    State.reset = State.cold false true false [] ∧
    ∀ (a b c : Bool) (q : List Instr),
      let t := State.cold a b c q
      t.resetLow = a ∧ t.powered = b ∧ t.freezeLow = c ∧ t.pending = q ∧ t.mode = .bypass ∧
        (∀ i, t.entry i = none) ∧
        (∀ g : Fin 8, t.gates[g] = .opened ∧ t.groupLocks[g] = false) ∧
        t.configLock = false ∧ t.mgmtId = 4095#12 ∧ t.lapseList = [] ∧ t.lapseOverflow = false ∧
        t.causes = ⟨false, false, false, false⟩ ∧
        t.pendingCauses = ⟨false, false, false, false, false, false⟩ ∧
        t.enables = ⟨true, true, false, false, false, false⟩ ∧ t.alertSlot = none ∧
        t.alertNumber = 0 ∧ t.free.length = 160 ∧
        (∀ buf : BufId, buf ∈ t.free ∧ t.contents[buf] = []) ∧
        t.divert = [] ∧ t.responses = [] ∧
        (∀ p, t.port p =
          ⟨.off, 0, false, ⟨0, 0, 0, 0, 0, 0, 0, 0, 0, 0, 0, 0, 0⟩, ⟨.forward, 48, 16, 8, 50⟩,
            .opened, 0, false, none, none, [], [], .ready⟩) ∧
        t.mgmt = ⟨none, none, 0, 0, 256, 0, none, false, false, 0, none, false, 0, 0⟩

/-- Held in cold reset the part takes no frame and no command (R203): every command but the two
pins' and the supply's leaves the state as it is (assumption log 10). RESET_DEASSERTED and
POWER_UP_START: the part starts when both the reset input is high and the supply is good; it then
reads the freeze input, and asserted gives HALTED with cause FREEZE, FROZEN pending and ALERT number
1 in the slot (R197, R203). Deasserted gives BYPASS (R198, R203), and nothing else changes.
RESET_DEASSERTED at a high input and POWER_UP_START at a good supply change no level and nothing else
(assumption log 2). -/
def Obligations.HeldInResetThenStartsByTheFreezeInput : Prop :=
  (∀ (c : Instr) (s : State), s.running = false →
      match c with
      | .coldReset _ => True
      | .resetDeasserted => True
      | .powerUpStart => True
      | .freezeAsserted => exec c s = .next { s with freezeLow := true }
      | .freezeDeasserted => exec c s = .next { s with freezeLow := false }
      | _ => exec c s = .next s) ∧
  ((∀ q : List Instr,
        exec .resetDeasserted (State.cold true true false q) = .next (State.cold false true false q) ∧
          exec .powerUpStart (State.cold false false false q) =
            .next (State.cold false true false q) ∧
          (State.cold false true false q).mode = .bypass) ∧
      (∀ q : List Instr,
        let t :=
          { State.cold false true true q with
            mode := .halted .freeze
            causes := ⟨false, true, false, false⟩
            alertNumber := 1
            alertSlot := some ⟨4095#12, 1, 2, ⟨false, true, false, false, false, false⟩⟩ }
        exec .resetDeasserted (State.cold true true true q) = .next t ∧
          exec .powerUpStart (State.cold false false true q) = .next t) ∧
      (∀ (f : Bool) (q : List Instr),
        exec .resetDeasserted (State.cold true false f q) = .next (State.cold false false f q) ∧
          exec .powerUpStart (State.cold true false f q) = .next (State.cold true true f q)) ∧
      ∀ s : State,
        (s.resetLow = false → exec .resetDeasserted s = .next s) ∧
          (s.powered = true → exec .powerUpStart s = .next s))

/-- `State.reset` (R38, R115, R117, R120, R149, R173, R197, R203), whose pin levels and buffer
contents are the model's choice (assumption log 7), satisfies every law that the statements below say
each step keeps. -/
def Obligations.ResetSatisfiesEveryLaw : Prop :=
  State.reset.BufferLaw ∧ State.reset.ContentLaw ∧ State.reset.QueueLaw ∧ State.reset.LapseListLaw ∧ State.reset.KeyLaw ∧
    State.reset.TableLaw ∧ State.reset.PortLaw ∧ State.reset.MgmtLaw ∧ State.reset.ModeLaw

/-! ### Laws that every step keeps -/

/-- R118: every buffer is, at any time, in exactly one place: free, being filled, referenced by one
FRAME descriptor, or being sent. -/
def Obligations.StepKeepsEveryBufferInOnePlace : Prop :=
  ∀ s t : State, s.BufferLaw → step s = .next t → t.BufferLaw

/-- R120: no queue holds more descriptors than its capacity. -/
def Obligations.StepKeepsQueueCapacities : Prop :=
  ∀ s t : State, s.QueueLaw → step s = .next t → t.QueueLaw

/-- R110: the lapse list holds at most 32 indices, never the same twice, and only those of LAPSED
entries. -/
def Obligations.StepKeepsTheLapseListLaw : Prop :=
  ∀ s t : State, s.LapseListLaw → step s = .next t → t.LapseListLaw

/-- R21: no two written entries hold one key, and none holds port N with the management stream id. -/
def Obligations.StepKeepsTheKeyLaw : Prop :=
  ∀ s t : State, s.KeyLaw → step s = .next t → t.KeyLaw

/-- R62: in a table whose trackers are sound, every exponent, elapsed count, deadline and miss run lies
in its range, and every step leaves the table sound. -/
def Obligations.StepKeepsTrackerRanges : Prop :=
  (∀ s t : State, s.TableLaw → step s = .next t → t.TableLaw) ∧
    ∀ (s : State) (i : Byte) (e : Entry) (t : Tracker),
      s.TableLaw → s.entry i = some e → e.tracker = some t →
        t.exp ≤ 15 ∧ t.elapsed ≤ 255 ∧ (1 ≤ t.deadline ∧ t.deadline ≤ 255) ∧ t.misses ≤ t.missLimit

/-- R132, R138, R141, R144, R147: each port's flow controller stays sound, and a DOWN port's queues,
control slot and flow controller stay at rest. -/
def Obligations.StepKeepsThePortLaw : Prop :=
  ∀ s t : State, s.PortLaw → step s = .next t → t.PortLaw

/-- R152, R161, R164, R166, R171: the slots, the load phase and HELD keep their law. -/
def Obligations.StepKeepsTheManagementLaw : Prop :=
  ∀ s t : State, s.MgmtLaw → step s = .next t → t.MgmtLaw

/-- R63, R133, R190, R200, R203: the mode law is kept. Its part on a part held in reset rests on the
model's cold values (assumption log 7) and on its ignoring commands then (assumption log 10). -/
def Obligations.StepKeepsTheModeLaw : Prop :=
  ∀ s t : State, s.ModeLaw → step s = .next t → t.ModeLaw

/-! ### Frames and requests as bytes -/

/-- R206: the payload of every request is its code and its arguments, in the order and at the lengths of
the table, two-byte fields high byte first; reading it back gives the request; and the model's table of
lengths gives that payload's length for its code, and none for a code that names no command. -/
def Obligations.EveryRequestPayloadReadsBack : Prop :=
  HighByteFirst ∧
    (∀ r : EntryRecord,
      r.bytes =
        [r.keyPort] ++ be16 r.streamId ++
          [r.action, r.cls, r.group, r.seqCheck, r.cadenceMode, r.armFlag, r.exponent, r.seed,
            r.weight, r.basis, r.fixedDeadline, r.missLimit, r.gapPolicy]) ∧
    (∀ c : Command,
      c.payload =
          (match c with
          | .identify => [0x01]
          | .readStatus => [0x02]
          | .readAlerts => [0x03]
          | .ackEvent => [0x04]
          | .setMode mode => [0x05, mode]
          | .setPort a =>
            [0x06, a.port, a.missPolicy, a.upper, a.lower, a.pauseRepeat, a.holdTimeout,
              a.escalation]
          | .setAlerts enables => [0x07, enables]
          | .setIdent sid => [0x08] ++ be16 sid
          | .setGate group setting => [0x09, group, setting]
          | .setLock group => [0x0A, group]
          | .sendLineReset port => [0x0B, port]
          | .writeEntry index r => [0x10, index] ++ r.bytes
          | .readEntry index => [0x11, index]
          | .freeEntry index => [0x12, index]
          | .armEntry index => [0x13, index]
          | .suspendEntry index => [0x14, index]
          | .tuneEntry index r =>
            [0x15, index, r.mask, r.weight, r.basis, r.missLimit, r.gapPolicy, r.mode,
              r.fixedDeadline]
          | .stepScale index direction => [0x16, index, direction]
          | .findEntry port sid => [0x17, port] ++ be16 sid
          | .readCounters kind target clear => [0x18, kind, target, clear]
          | .bulkLoad start count => [0x20] ++ be16 start ++ [count]
          | .loadData r => [0x21] ++ r.bytes
          | .readLapses => [0x22]
          | .readDiverted => [0x23]
          | .abort => [0x30]
          | .halt => [0x31]
          | .resetWarm => [0x32]) ∧
        parseCommand c.payload = some c ∧ requestLength c.code = some c.payload.length) ∧
    ∀ code : Byte, (∀ c : Command, c.code ≠ code) → requestLength code = none

/-- R2, R4, R5, R204, R205: a frame the part sends is its header, its payload and its check: the kind in
the upper four bits of byte 0, the reserved bits zero, the stream id high byte first with its upper four
bits zero, the seq, the length; and the check over all of these, high byte first, whose test value is
29B1h. R3, R14: at most 240 payload bytes long, it passes the test at EOF and reads back as itself. -/
def Obligations.EveryFrameReadsBack : Prop :=
  KindCodes ∧ HighByteFirst ∧
    crc [0x31, 0x32, 0x33, 0x34, 0x35, 0x36, 0x37, 0x38, 0x39] = 0x29B1 ∧
    ∀ f : Frame,
      f.body =
          [BitVec.ofNat 8 (16 * f.kind.code), BitVec.ofNat 8 (f.streamId.toNat / 256),
            BitVec.ofNat 8 f.streamId.toNat, f.seq, BitVec.ofNat 8 f.payload.length] ++
            f.payload ∧
        f.bytes = f.body ++ be16 (crc f.body) ∧
        (f.payload.length ≤ 240 → parseFrame f.bytes = some f)

/-! ### The line -/

/-- R12: SOF by the receiver's state. In HUNT or SKIP some free buffer is claimed and emptied; an
empty pool counts a no-buffer discard, sets POOL_EXHAUSTED, which may raise an ALERT (R193), and
enters SKIP; in FILL the frame in progress is errored and the buffer kept and emptied; in OFF nothing
is stored. -/
def Obligations.SofByReceiverState : Prop :=
  (∀ (s : State) (p : Port),
      s.running = true → ((s.port p).receiver = .hunt ∨ (s.port p).receiver = .skip) →
      s.free ≠ [] →
      ∃ b, b ∈ s.free ∧
        exec (.sof p) s =
          .next ({ s with
            free := s.free.erase b
            contents := s.contents.set b [] }.modPort p fun ps =>
            { ps with receiver := .fill b, upCount := 0, breakTaken := false })) ∧
    (∀ (s : State) (p : Port),
      s.running = true → ((s.port p).receiver = .hunt ∨ (s.port p).receiver = .skip) →
      s.free = [] →
      ∃ t : State, exec (.sof p) s = .next t ∧
        t = { s with
              portN := t.portN
              portS := t.portS
              causes := { s.causes with poolExhausted := true }
              alertSlot := t.alertSlot
              alertNumber := t.alertNumber } ∧
        t.port p.opp = s.port p.opp ∧
        t.port p =
          { s.port p with
            receiver := .skip
            upCount := 0
            breakTaken := false
            counters :=
              { (s.port p).counters with noBuffer := satInc (s.port p).counters.noBuffer } } ∧
        s.Alerted t) ∧
    (∀ (s : State) (p : Port) (b : BufId),
      s.Filling p b →
      exec (.sof p) s =
        .next ({ s with contents := s.contents.set b [] }.modPort p fun ps =>
          { ps with
            upCount := 0
            breakTaken := false
            counters := { ps.counters with errored := satInc ps.counters.errored } })) ∧
    ∀ (s : State) (p : Port),
      s.running = true → (s.port p).receiver = .off →
      exec (.sof p) s = .next (s.modPort p fun ps => { ps with upCount := 0, breakTaken := false })

/-- R14: the stored bytes are errored exactly when one of the five tests fails; R5's check is
computed over all but the last two bytes. R14, R16: EOF in FILL of an errored frame frees the buffer
and counts it; of an intact one counts it intact and hands it on: PAUSE and RESUME to the port's
hold half, an own request to the management unit, with the buffer freed, and everything else to the
classifier with its buffer. EOF in SKIP returns to HUNT, and in HUNT and OFF it is ignored (R11). A
freed buffer goes to the front of the list of free ones (assumption log 6). -/
def Obligations.EofTestsAndHandsOn : Prop :=
  (∀ bs : List Byte, parseFrame bs = none ↔
      bs.length < 7 ∨ ¬(1 ≤ (bs.getD 0 0).toNat / 16 ∧ (bs.getD 0 0).toNat / 16 ≤ 7) ∨
        240 < (bs.getD 4 0).toNat ∨ bs.length ≠ 7 + (bs.getD 4 0).toNat ∨
        be16 (crc (bs.take (bs.length - 2))) ≠ bs.drop (bs.length - 2)) ∧
  ((∀ (s : State) (p : Port) (b : BufId),
        s.Filling p b → parseFrame s.contents[b] = none →
        exec (.eof p) s =
          .next ({ s with free := b :: s.free }.modPort p fun ps =>
            { ps with
              receiver := .hunt
              upCount := 0
              breakTaken := false
              counters := { ps.counters with errored := satInc ps.counters.errored } })) ∧
      (∀ (s : State) (p : Port) (b : BufId) (f : Frame),
        s.Filling p b → parseFrame s.contents[b] = some f →
        (f.kind = .pause →
            exec (.eof p) s =
              .next ({ s.received p with free := b :: s.free }.modPort p fun ps =>
                { ps with held := true, holdTimer := some ps.settings.holdTimeout })) ∧
          (f.kind = .resume →
            exec (.eof p) s =
              .next ({ s.received p with free := b :: s.free }.modPort p fun ps =>
                { ps with held := false, holdTimer := none })) ∧
          (f.kind = .mgmtReq → p = .N → f.streamId = s.mgmtId →
            exec (.eof p) s =
              .next ({ s.received p with free := b :: s.free }.takePayload f.seq f.payload))) ∧
      (∀ (s : State) (p : Port) (b : BufId) (f : Frame),
        s.HoldsTraffic p b f → exec (.eof p) s = .next ((s.received p).classify p f b)) ∧
      ∀ (s : State) (p : Port), s.running = true →
        ((s.port p).receiver = .skip →
            exec (.eof p) s =
              .next (s.modPort p fun ps =>
                { ps with receiver := .hunt, upCount := 0, breakTaken := false })) ∧
          ((s.port p).receiver = .hunt ∨ (s.port p).receiver = .off →
            exec (.eof p) s =
              .next (s.modPort p fun ps => { ps with upCount := 0, breakTaken := false })))

/-- R13: a data byte in FILL is stored at the next position; the 248th frees the buffer, counts the
frame errored and enters SKIP. In the other states it is ignored. R15: ABORT in FILL counts the
frame errored and aborted, frees the buffer and enters HUNT; in SKIP it enters HUNT with no count;
in HUNT and OFF it changes no receiver. A freed buffer goes to the front of the list of free ones
(assumption log 6). -/
def Obligations.DataByteAndAbortInReception : Prop :=
  ((∀ (s : State) (p : Port) (b : BufId) (x : Byte),
        s.Filling p b → s.contents[b].length < 247 →
        exec (.dataByte p x) s =
          .next ({ s with contents := s.contents.set b (s.contents[b] ++ [x]) }.modPort p fun ps =>
            { ps with upCount := 0, breakTaken := false })) ∧
      (∀ (s : State) (p : Port) (b : BufId) (x : Byte),
        s.Filling p b → 247 ≤ s.contents[b].length →
        exec (.dataByte p x) s =
          .next ({ s with free := b :: s.free }.modPort p fun ps =>
            { ps with
              receiver := .skip
              upCount := 0
              breakTaken := false
              counters := { ps.counters with errored := satInc ps.counters.errored } })) ∧
      ∀ (s : State) (p : Port) (x : Byte),
        s.running = true → (∀ b, (s.port p).receiver ≠ .fill b) →
        exec (.dataByte p x) s =
          .next (s.modPort p fun ps => { ps with upCount := 0, breakTaken := false })) ∧
  ((∀ (s : State) (p : Port) (b : BufId),
        s.Filling p b →
        exec (.abortReceived p) s =
          .next ({ s with free := b :: s.free }.modPort p fun ps =>
            { ps with
              receiver := .hunt
              upCount := 0
              breakTaken := false
              counters :=
                { ps.counters with
                  errored := satInc ps.counters.errored
                  aborted := satInc ps.counters.aborted } })) ∧
      ∀ (s : State) (p : Port),
        s.running = true → (∀ b, (s.port p).receiver ≠ .fill b) →
        exec (.abortReceived p) s =
          .next (s.modPort p fun ps =>
            { ps with
              receiver := if ps.receiver = .skip then .hunt else ps.receiver
              upCount := 0
              breakTaken := false }))

/-- R8: the hundredth unbroken IDLE of a DOWN port brings it UP in HUNT, and PORT_UP does the same of
itself; a shorter run only counts. An UP port stays as it is (assumption log 4). -/
def Obligations.IdleAndPortUpBringAPortUp : Prop :=
  ∀ (s : State) (p : Port), s.running = true →
    ((s.port p).receiver = .off →
        (exec (.idleReceived p) s =
          if (s.port p).upCount < 99 then
            .next (s.modPort p fun ps => { ps with upCount := ps.upCount + 1, breakTaken := false })
          else
            .next (s.modPort p fun ps =>
              { ps with receiver := .hunt, upCount := 0, breakTaken := false })) ∧
          exec (.portUp p) s =
            .next (s.modPort p fun ps =>
              { ps with receiver := .hunt, upCount := 0, breakTaken := false })) ∧
      ((s.port p).receiver ≠ .off →
        exec (.idleReceived p) s = .next (s.modPort p fun ps => { ps with breakTaken := false }) ∧
          exec (.portUp p) s = .next s)

/-- R6, R7, R9, R15, R132, R147: a line reset or DOWN on port S counts the event, ends the frame in
reception, abandons any transmission, flushes S's two data queues and rests S's flow controller; the
flush is reported to port N's pause half; no other state changes. A second line reset of one break, and
either event on a DOWN port, is no event (assumption logs 2 and 4). -/
def Obligations.LineEventsOnPortS : Prop :=
  (∀ s : State, s.running = true → (s.port .S).receiver ≠ .off → s.portS.breakTaken = false →
      ∃ t : State, exec (.lineReset .S) s = .next t ∧
        t = { s with portN := t.portN, portS := t.portS, free := t.free } ∧
        t.free.Perm (s.free ++ s.portS.bufs) ∧ t.portN = s.portN.afterFlush ∧
        t.portS =
          { s.portS.afterEvent .hunt with
            breakTaken := true
            counters :=
              { (s.portS.afterEvent .hunt).counters with
                lineResets := satInc s.portS.counters.lineResets } }) ∧
    (∀ s : State, s.running = true → (s.port .S).receiver ≠ .off →
      ∃ t : State, exec (.portDown .S) s = .next t ∧
        t = { s with portN := t.portN, portS := t.portS, free := t.free } ∧
        t.free.Perm (s.free ++ s.portS.bufs) ∧ t.portN = s.portN.afterFlush ∧
        t.portS =
          { s.portS.afterEvent .off with
            upCount := 0
            counters :=
              { (s.portS.afterEvent .off).counters with
                downEvents := satInc s.portS.counters.downEvents } }) ∧
    ∀ (s : State) (p : Port), s.running = true →
      ((s.port p).receiver ≠ .off → (s.port p).breakTaken = true →
          exec (.lineReset p) s = .next s) ∧
        ((s.port p).receiver = .off →
          exec (.portDown p) s = .next s ∧
            exec (.lineReset p) s = .next (s.modPort p fun ps => { ps with upCount := 0 }))

/-- R161, R162: a line reset or DOWN on port N is also a link event: both slots are discarded with no
response, a bulk load in its load phase ends and is recorded ABORTED with its step and next index, the
response queue and the alert slot are emptied, and the link events counter rises. Taken while not HELD
it sets HELD and LINK_EVENT, starts the escalation timer unless its time is 0, and raises an ALERT when
LINK_EVENT is enabled and nothing was active (R194). The comparison stands after the discards
(assumption log 8). -/
def Obligations.LineEventsOnPortNAreLinkEvents : Prop :=
  ∀ (s : State) (c : Instr), s.running = true → s.portN.receiver ≠ .off →
    (c = .lineReset .N ∧ s.portN.breakTaken = false ∨ c = .portDown .N) →
    ∃ t : State, exec c s = .next t ∧
      t = { s with
            portN := t.portN
            portS := s.portS.afterFlush
            free := t.free
            responses := []
            alertSlot := t.alertSlot
            alertNumber := t.alertNumber
            mgmt := t.mgmt
            causes := { s.causes with linkEvent := s.causes.linkEvent || !s.mgmt.heldEvent } } ∧
      t.free.Perm (s.free ++ s.portN.bufs) ∧
      t.portN =
        (if c = .portDown .N then
          { s.portN.afterEvent .off with
            upCount := 0
            counters :=
              { (s.portN.afterEvent .off).counters with
                downEvents := satInc s.portN.counters.downEvents } }
        else
          { s.portN.afterEvent .hunt with
            breakTaken := true
            counters :=
              { (s.portN.afterEvent .hunt).counters with
                lineResets := satInc s.portN.counters.lineResets } }) ∧
      t.mgmt =
        { s.mgmt with
          executing := none
          waiting := none
          remaining := t.mgmt.remaining
          gapTimer := t.mgmt.gapTimer
          lastLoad := t.mgmt.lastLoad
          heldEvent := true
          escTimer :=
            if s.mgmt.heldEvent = true ∨ s.mgmt.escTime = 0 then s.mgmt.escTimer
            else some s.mgmt.escTime
          linkEvents := satInc s.mgmt.linkEvents } ∧
      (∀ bulk, s.mgmt.executing = some (.loading bulk) →
        t.mgmt.remaining = 0 ∧ t.mgmt.gapTimer = false ∧
          t.mgmt.lastLoad = some ⟨.aborted, s.mgmt.step, s.mgmt.nextIndex⟩) ∧
      ((∀ bulk, s.mgmt.executing ≠ some (.loading bulk)) →
        t.mgmt.remaining = s.mgmt.remaining ∧ t.mgmt.gapTimer = s.mgmt.gapTimer ∧
          t.mgmt.lastLoad = s.mgmt.lastLoad) ∧
      (if s.mgmt.heldEvent = false ∧ s.anyActive = false ∧ s.enables.linkEvent = true then
        t.alertNumber = s.alertNumber + 1 ∧
          t.alertSlot =
            some ⟨s.mgmtId, s.alertNumber + 1, 1, { s.pendingCauses with linkEvent := true }⟩
      else t.alertNumber = s.alertNumber ∧ t.alertSlot = none)

/-! ### Flow control -/

/-- R139, R140, R141: the pause half's answer to each report. In OPEN, a queued frame at a depth of
upper or more, or a frame lost to the full queue, sends PAUSE; in PAUSED each frame report raises
the re-send count, and at the pause repeat sends a further PAUSE; a removal or flush report at or
below lower sends RESUME from PAUSED. Nothing else changes. R146: the expiry of a running hold timer
clears held, counts the expiry at the port and sets HOLD_EXPIRED, which may raise an ALERT (R193);
that of a stopped one does not happen (assumption log 2). -/
def Obligations.FlowControllerAnswersItsReports : Prop :=
  (∀ (ps : PortState) (depth : Nat),
      (ps.pauseState = .opened →
        (∀ placed, (placed = .queued ∧ ps.settings.upper ≤ depth) ∨ placed = .full →
          ps.frameReport placed depth =
            { ps with pauseState := .paused, resend := 0, controlSlot := some .pause }) ∧
          (depth < ps.settings.upper → ps.frameReport .queued depth = ps) ∧
          ps.frameReport .down depth = ps ∧ ps.drainReport depth = ps) ∧
        (ps.pauseState = .paused →
          (∀ placed,
            (ps.settings.pauseRepeat ≤ ps.resend + 1 →
              ps.frameReport placed depth = { ps with resend := 0, controlSlot := some .pause }) ∧
              (ps.resend + 1 < ps.settings.pauseRepeat →
                ps.frameReport placed depth = { ps with resend := ps.resend + 1 })) ∧
            (depth ≤ ps.settings.lower →
              ps.drainReport depth =
                { ps with pauseState := .opened, resend := 0, controlSlot := some .resume }) ∧
            (ps.settings.lower < depth → ps.drainReport depth = ps))) ∧
  ((∀ (s : State) (p : Port), s.running = true → (s.port p).holdTimer ≠ none →
        ∃ t : State, exec (.holdTimerExpiry p) s = .next t ∧
          t = { s with
                portN := t.portN
                portS := t.portS
                causes := { s.causes with holdExpired := true }
                alertSlot := t.alertSlot
                alertNumber := t.alertNumber } ∧
          t.port p.opp = s.port p.opp ∧
          t.port p =
            { s.port p with
              held := false
              holdTimer := none
              counters :=
                { (s.port p).counters with
                  holdExpiries := satInc (s.port p).counters.holdExpiries } } ∧
          s.Alerted t) ∧
      ∀ (s : State) (p : Port), s.running = true → (s.port p).holdTimer = none →
        exec (.holdTimerExpiry p) s = .next s)

/-! ### The classifier -/

/-- R44, R55, R56, R57: in BYPASS every traffic frame goes to the opposite port's acyclic queue,
with no lookup; toward a DOWN port it is dropped and counted in down-drops, at a full queue dropped
and counted in queue-full; each is reported to the ingress port's pause half. R45: in HALTED every
traffic frame is dropped: its buffer is freed, to the front of the list of free ones (assumption log
6), and halted-drops counted at the ingress port, and nothing else. -/
def Obligations.BypassForwardsAndHaltedDrops : Prop :=
  (∀ (s : State) (p : Port) (b : BufId) (f : Frame),
      s.HoldsTraffic p b f → s.mode = .bypass →
      ((s.port p.opp).receiver = .off →
          exec (.eof p) s =
            .next (({ s.received p with free := b :: s.free }.modPort p.opp fun ps =>
              { ps with
                counters := { ps.counters with downDrops := satInc ps.counters.downDrops } }).modPort p
              fun ps => ps.frameReport .down (s.port p.opp).acyclic.length)) ∧
        ((s.port p.opp).receiver ≠ .off → (s.port p.opp).acyclic.length < 64 →
          exec (.eof p) s =
            .next (((s.received p).modPort p.opp fun ps =>
              { ps with acyclic := ps.acyclic ++ [b] }).modPort p
              fun ps => ps.frameReport .queued ((s.port p.opp).acyclic.length + 1))) ∧
        ((s.port p.opp).receiver ≠ .off → 64 ≤ (s.port p.opp).acyclic.length →
          exec (.eof p) s =
            .next (({ s.received p with free := b :: s.free }.modPort p.opp fun ps =>
              { ps with
                counters := { ps.counters with queueFull := satInc ps.counters.queueFull } }).modPort p
              fun ps => ps.frameReport .full (s.port p.opp).acyclic.length))) ∧
  (∀ (s : State) (p : Port) (b : BufId) (f : Frame),
      s.HoldsTraffic p b f → s.mode.isHalted = true →
      exec (.eof p) s =
        .next ({ s.received p with free := b :: s.free }.modPort p fun ps =>
          { ps with
            counters := { ps.counters with haltedDrops := satInc ps.counters.haltedDrops } }))

/-- R46, R47: in RUN a frame whose key no entry holds is a miss, counted at the ingress port whatever
then becomes of it; its fate is that port's miss policy: FORWARD, a drop, or the divert queue with no
entry index, where DIVERTED may raise an ALERT (R193), and which at 16 drops the frame and counts the
ingress port's queue-full (R54). R55, R56, R57: FORWARD is the opposite port's acyclic queue; toward a
DOWN port the frame is dropped and counted in down-drops, at a full queue dropped and counted in
queue-full; each is reported to the ingress port's pause half. A freed buffer goes to the front of the
list of free ones (assumption log 6). -/
def Obligations.MissGetsTheMissPolicy : Prop :=
  ∀ (s : State) (p : Port) (b : BufId) (f : Frame),
    s.HoldsTraffic p b f → s.mode = .run →
    (∀ i e, s.entry i = some e → ¬(e.keyPort = p ∧ e.streamId = f.streamId)) →
    ∃ u : State, u = ((s.received p).modPort p fun ps =>
          { ps with counters := { ps.counters with misses := satInc ps.counters.misses } }) ∧
      ((s.port p).settings.missPolicy = .forward →
          ((s.port p.opp).receiver = .off →
              exec (.eof p) s =
                .next (({ u with free := b :: s.free }.modPort p.opp fun ps =>
                  { ps with
                    counters :=
                      { ps.counters with downDrops := satInc ps.counters.downDrops } }).modPort p
                  fun ps => ps.frameReport .down (s.port p.opp).acyclic.length)) ∧
            ((s.port p.opp).receiver ≠ .off → (s.port p.opp).acyclic.length < 64 →
              exec (.eof p) s =
                .next ((u.modPort p.opp fun ps =>
                  { ps with acyclic := ps.acyclic ++ [b] }).modPort p
                  fun ps => ps.frameReport .queued ((s.port p.opp).acyclic.length + 1))) ∧
            ((s.port p.opp).receiver ≠ .off → 64 ≤ (s.port p.opp).acyclic.length →
              exec (.eof p) s =
                .next (({ u with free := b :: s.free }.modPort p.opp fun ps =>
                  { ps with
                    counters :=
                      { ps.counters with queueFull := satInc ps.counters.queueFull } }).modPort p
                  fun ps => ps.frameReport .full (s.port p.opp).acyclic.length))) ∧
      ((s.port p).settings.missPolicy = .drop →
          exec (.eof p) s = .next { u with free := b :: s.free }) ∧
      ((s.port p).settings.missPolicy = .divert → s.divert.length < 16 →
          ∃ t : State, exec (.eof p) s = .next t ∧
            t = { u with
                  divert := s.divert ++ [⟨b, p, none⟩]
                  alertSlot := t.alertSlot
                  alertNumber := t.alertNumber } ∧
            u.Alerted t) ∧
      ((s.port p).settings.missPolicy = .divert → 16 ≤ s.divert.length →
          exec (.eof p) s =
            .next ({ u with free := b :: s.free }.modPort p fun ps =>
              { ps with
                counters := { ps.counters with queueFull := satInc ps.counters.queueFull } }))

/-- R48: on a hit, a frame of a SUSPENDED entry, or of any entry whose gate is CLOSED, is dropped:
the entry's dropped counter rises and the buffer is freed, and nothing else of the entry changes.
R49: the verdict on a DATA frame's seq against expected seq, counting modulo 256, and the expected
seq after it; a duplicate is dropped, counted in duplicates alone, and is no arrival. R50: with the
sequence check OFF every DATA frame is accepted and the entry's sequence state stays; no other kind
has a sequence test at any entry: it goes straight to the action. A freed buffer goes to the front of
the list of free ones (assumption log 6). -/
def Obligations.EntryChecksThenSequenceCheck : Prop :=
  (∀ (s : State) (p : Port) (b : BufId) (f : Frame) (i : Byte) (e : Entry),
      s.HoldsTraffic p b f → s.mode = .run → s.lookup p f.streamId = some i →
      s.entry i = some e → (e.state = .suspended ∨ s.gateOf e = .closed) →
      exec (.eof p) s =
        .next ({ s.received p with free := b :: s.free }.setEntry i
          (some { e with
            counters := { e.counters with dropped := satInc e.counters.dropped } }))) ∧
  ((∀ (e : Entry) (seq : Byte), e.seqCheck = true →
        (e.expSeq = none → e.verdict seq = .accepted) ∧
          (∀ x, e.expSeq = some x →
            (seq = x → e.verdict seq = .accepted) ∧ (seq = x - 1 → e.verdict seq = .duplicate) ∧
              (seq ≠ x → seq ≠ x - 1 → e.verdict seq = .slip)) ∧
          e.expectNext seq = { e with expSeq := some (seq + 1) }) ∧
      ∀ (s : State) (p : Port) (b : BufId) (f : Frame) (i : Byte) (e : Entry) (x : Byte),
        s.HoldsTraffic p b f → s.mode = .run → s.lookup p f.streamId = some i →
        s.entry i = some e → e.state ≠ .suspended → s.gateOf e = .opened → f.kind = .data →
        e.seqCheck = true → e.expSeq = some x → f.seq = x - 1 →
        exec (.eof p) s =
          .next ({ s.received p with free := b :: s.free }.setEntry i
            (some { e with
              counters := { e.counters with duplicates := satInc e.counters.duplicates } }))) ∧
  ((∀ (e : Entry) (seq : Byte), e.seqCheck = false →
        e.verdict seq = .accepted ∧ e.expectNext seq = e) ∧
      ∀ (s : State) (p : Port) (b : BufId) (f : Frame) (i : Byte) (e : Entry),
        s.HoldsTraffic p b f → s.mode = .run → s.lookup p f.streamId = some i →
        s.entry i = some e → e.state ≠ .suspended → s.gateOf e = .opened → f.kind ≠ .data →
        exec (.eof p) s = .next ((s.received p).act p i e b))

/-- R28, R49, R51, R108: an accepted DATA frame makes an arrival at its entry before the action: a slip
is counted, expected seq becomes seq + 1 when the check is ON, the entry becomes TRACKING, its tracker
takes the arrival's steps, and its index leaves the lapse list. No other entry and no other state moves
before the action. The removal from the list is a claim of its own for the alert unit (assumption log
8). -/
def Obligations.AcceptedFrameArrivesBeforeItsAction : Prop :=
  ∀ (s : State) (p : Port) (b : BufId) (f : Frame) (i : Byte) (e : Entry),
    s.HoldsTraffic p b f → s.mode = .run → s.lookup p f.streamId = some i →
    s.entry i = some e → e.state ≠ .suspended → s.gateOf e = .opened → f.kind = .data →
    e.verdict f.seq ≠ .duplicate →
    ∃ u : State, exec (.eof p) s = .next (u.act p i e b) ∧
      u = { s.received p with table := u.table, lapseList := s.lapseList.filter (· != i) } ∧
      (∀ j, j ≠ i → u.entry j = s.entry j) ∧
      u.entry i =
        some { e with
          state := .tracking
          expSeq := if e.seqCheck then some (f.seq + 1) else e.expSeq
          tracker :=
            e.tracker.map fun t =>
              if e.state = .tracking then t.arriveTracking else t.arriveOther
          counters :=
            if e.verdict f.seq = .slip then { e.counters with slips := satInc e.counters.slips }
            else e.counters }

/-- R53: the action DROP frees the frame's buffer and counts it in the entry's dropped counter, and
nothing else. R52, R55, R56: the action FORWARD toward the egress port, by class and by that port's
state and space: a queued frame counts in passed, a full queue in the entry's dropped and the egress
queue-full, a DOWN port in its down-drops alone. The entry that the table then holds has the class of
the one looked up, since no check and no arrival changes it. A frame of an ACYCLIC entry is reported
to the ingress pause half whatever becomes of it (R57); one of a CYCLIC entry is not. R54, R58: the
action DIVERT appends the frame to the divert queue with its ingress port and entry index, or at 16
drops it and counts the entry's dropped and the ingress port's queue-full. The DIVERTED cause is
pending exactly while the queue is not empty, and the append may raise an ALERT (R193), compared from
the state the arrival left (assumption log 8). A freed buffer goes to the front of the list of free
ones (assumption log 6). -/
def Obligations.ActionsForwardDropOrDivert : Prop :=
  (∀ (s : State) (p : Port) (i : Byte) (e : Entry) (b : BufId),
      e.action = .drop →
      s.act p i e b =
        { s with free := b :: s.free }.modEntry i fun x =>
          { x with counters := { x.counters with dropped := satInc x.counters.dropped } }) ∧
  (∀ (s : State) (p : Port) (i : Byte) (e x : Entry) (b : BufId),
      e.action = .forward → s.entry i = some x → x.cls = e.cls →
      ∃ (n : Nat) (placed : Placed) (u : State),
        n = (if e.cls = .cyclic then (s.port p.opp).cyclic.length
          else (s.port p.opp).acyclic.length) ∧
        (placed = .down ↔ (s.port p.opp).receiver = .off) ∧
        (placed = .full ↔
          (s.port p.opp).receiver ≠ .off ∧ (if e.cls = .cyclic then 32 else 64) ≤ n) ∧
        (placed = .queued →
          u = (s.setEntry i (some { x with
                counters := { x.counters with passed := satInc x.counters.passed } })).modPort p.opp
              fun ps =>
                if e.cls = .cyclic then { ps with cyclic := ps.cyclic ++ [.frame b] }
                else { ps with acyclic := ps.acyclic ++ [b] }) ∧
        (placed = .full →
          u = ({ s with free := b :: s.free }.setEntry i (some { x with
                counters := { x.counters with dropped := satInc x.counters.dropped } })).modPort p.opp
              fun ps =>
                { ps with
                  counters := { ps.counters with queueFull := satInc ps.counters.queueFull } }) ∧
        (placed = .down →
          u = { s with free := b :: s.free }.modPort p.opp fun ps =>
                { ps with
                  counters := { ps.counters with downDrops := satInc ps.counters.downDrops } }) ∧
        s.act p i e b =
          if e.cls = .cyclic then u
          else u.modPort p fun ps => ps.frameReport placed (u.port p.opp).acyclic.length) ∧
  (∀ (s : State) (p : Port) (i : Byte) (e : Entry) (b : BufId),
      e.action = .divert →
      (s.divert.length < 16 →
          s.act p i e b =
            { s with
              divert := s.divert ++ [⟨b, p, some i⟩]
              alertSlot := (s.act p i e b).alertSlot
              alertNumber := (s.act p i e b).alertNumber } ∧
            s.Alerted (s.act p i e b)) ∧
        (16 ≤ s.divert.length →
          s.act p i e b =
            ({ s with free := b :: s.free }.modPort p fun ps =>
              { ps with
                counters := { ps.counters with queueFull := satInc ps.counters.queueFull } }).modEntry
              i fun x =>
                { x with counters := { x.counters with dropped := satInc x.counters.dropped } }) ∧
        (s.pendingCauses.diverted = true ↔ s.divert ≠ []))

/-! ### The transmitters -/

/-- R125, R126, R127, R141, R142: TRANSMISSION_START at a READY transmitter of an UP port takes the
head of the first eligible source in the port's order, out of its source and into transmission: the
control slot, on port N the response queue and the alert slot, the cyclic queue, the acyclic queue of
a port not held, these two outside HALTED alone. A removal from an acyclic queue is reported to the
opposite pause half. With no source eligible, or the transmitter not READY, or the port DOWN, no
start is taken (assumption log 2). -/
def Obligations.TransmissionStartTakesTheFirstEligibleSource : Prop :=
  ∀ (s : State) (p : Port), s.running = true →
    ((s.port p).tx ≠ .ready ∨ (s.port p).receiver = .off →
        exec (.transmissionStart p) s = .next s) ∧
      ((s.port p).tx = .ready → (s.port p).receiver ≠ .off →
        (∀ k, (s.port p).controlSlot = some k →
          exec (.transmissionStart p) s =
            .next (s.modPort p fun ps =>
              { ps with
                controlSlot := none
                tx := .sending (.control k)
                counters :=
                  match k with
                  | .pause => { ps.counters with pausesSent := satInc ps.counters.pausesSent }
                  | .resume =>
                    { ps.counters with resumesSent := satInc ps.counters.resumesSent } })) ∧
          (∀ r rest, p = .N → s.portN.controlSlot = none → s.responses = r :: rest →
            exec (.transmissionStart p) s =
              .next ({ s with responses := rest }.modPort .N fun ps =>
                { ps with tx := .sending (.response r) })) ∧
          (∀ a, p = .N → s.portN.controlSlot = none → s.responses = [] → s.alertSlot = some a →
            exec (.transmissionStart p) s =
              .next ({ s with alertSlot := none }.modPort .N fun ps =>
                { ps with tx := .sending (.alert a) })) ∧
          (∀ d rest, s.HigherIdle p → s.mode.isHalted = false → (s.port p).cyclic = d :: rest →
            exec (.transmissionStart p) s =
              .next (s.modPort p fun ps =>
                { ps with cyclic := rest, tx := .sending (.cyclic d) })) ∧
          (∀ b rest, s.HigherIdle p → s.mode.isHalted = false → (s.port p).cyclic = [] →
            (s.port p).held = false → (s.port p).acyclic = b :: rest →
            exec (.transmissionStart p) s =
              .next ((s.modPort p fun ps =>
                { ps with acyclic := rest, tx := .sending (.acyclic b) }).modPort p.opp fun ps =>
                ps.drainReport rest.length)) ∧
          (s.HigherIdle p →
            (s.mode.isHalted = true ∨
              (s.port p).cyclic = [] ∧ ((s.port p).held = true ∨ (s.port p).acyclic = [])) →
            exec (.transmissionStart p) s = .next s))

/-- R10, R124, R128: completion frees the buffer of a FRAME descriptor and enters SPACING; SPACING's end
makes the transmitter READY; the end of a break on port S enters SPACING (assumption log 14). Each in a
transmitter that is not in the state concerned changes nothing (assumption log 2). A freed buffer goes
to the front of the list of free ones (assumption log 6). -/
def Obligations.TransmitterCompletesSpacesAndReadies : Prop :=
  (∀ (s : State) (p : Port) (o : Outgoing), s.running = true → (s.port p).tx = .sending o →
      exec (.transmissionComplete p) s =
        .next ({ s with free := o.bufs ++ s.free }.modPort p fun ps =>
          { ps with tx := .spacing .eof })) ∧
    (∀ (s : State) (p : Port), s.running = true → (∀ o, (s.port p).tx ≠ .sending o) →
      exec (.transmissionComplete p) s = .next s) ∧
    (∀ (s : State) (p : Port) (k : FrameEnd), s.running = true → (s.port p).tx = .spacing k →
      exec (.spacingEnd p) s = .next (s.modPort p fun ps => { ps with tx := .ready })) ∧
    (∀ (s : State) (p : Port), s.running = true → (∀ k, (s.port p).tx ≠ .spacing k) →
      exec (.spacingEnd p) s = .next s) ∧
    (∀ s : State, s.running = true → s.portS.tx = .brk →
      exec .breakEnd s = .next { s with portS := { s.portS with tx := .spacing .brk } }) ∧
    (∀ s : State, s.running = true → s.portS.tx ≠ .brk → exec .breakEnd s = .next s) ∧
    ∀ b : BufId, (Outgoing.cyclic (.frame b)).bufs = [b] ∧ (Outgoing.acyclic b).bufs = [b] ∧
      (∀ m, (Outgoing.cyclic (.marker m)).bufs = []) ∧ (∀ r, (Outgoing.response r).bufs = []) ∧
      (∀ a, (Outgoing.alert a).bufs = []) ∧ ∀ k, (Outgoing.control k).bufs = []

/-- R4, R204, R207: the codes of kinds and statuses, and the bits of a cause set. R105, R121, R142,
R155, R193, R204, R207: what each transmission has between SOF and EOF. A MARKER, a PAUSE or RESUME,
a response and an ALERT read back as the frame their rules give; a FRAME descriptor's buffer goes out
as the intact frame it holds. -/
def Obligations.TransmittedFramesAreTheirRules : Prop :=
  KindCodes ∧ StatusCodes ∧ CauseBits ∧
  ∀ contents : Vector (List Byte) 160,
    (∀ m : Marker, parseFrame ((Outgoing.cyclic (.marker m)).bytes contents) =
        some ⟨.marker, m.streamId, m.seq, [BitVec.ofNat 8 m.missNumber, m.index]⟩) ∧
      parseFrame ((Outgoing.control .pause).bytes contents) = some ⟨.pause, 0, 0, []⟩ ∧
      parseFrame ((Outgoing.control .resume).bytes contents) = some ⟨.resume, 0, 0, []⟩ ∧
      (∀ a : Alert, parseFrame ((Outgoing.alert a).bytes contents) =
        some ⟨.alert, a.streamId, a.number, [BitVec.ofNat 8 a.highest, a.pending.byte]⟩) ∧
      (∀ r : Response, r.data.length ≤ 236 →
        parseFrame ((Outgoing.response r).bytes contents) =
          some ⟨.mgmtRsp, r.streamId, r.tag,
            [r.code, r.status.code, BitVec.ofNat 8 r.step, 0] ++ r.data⟩) ∧
      (∀ (b : BufId) (f : Frame), parseFrame contents[b] = some f →
        (Outgoing.cyclic (.frame b)).bytes contents = f.bytes ∧
          (Outgoing.acyclic b).bytes contents = f.bytes)

/-! ### Trackers -/

/-- R66, R74, R75, R91: an arrival at a TRACKING entry in LEARN with no preload captures elapsed,
makes the speed-up when the exponent is above 0 and the new last capture below 85, doubling the
captures and the fixed deadline with saturation, learns the deadline, and sets elapsed and the miss
run to 0. R76, R94 to R97: an arrival at a TRACKING entry in FIXED with no preload captures, takes
at most one scale request, up before down, and sets the deadline to the fixed deadline. An up
request doubles the tick and halves the captures and the fixed deadline, kept at least 1; a down
request halves the tick and doubles them with saturation at 255; a request at the end of the range
is cleared with the scale-limit flag set. -/
def Obligations.ArrivalInTrackingRescalesByMode : Prop :=
  (∀ t : Tracker, t.mode = .learn → t.preload = none →
      (0 < t.exp ∧ t.elapsed < 85 →
          t.arriveTracking =
            { ({ t with
                  exp := t.exp - 1
                  last := min 255 (2 * t.elapsed)
                  prev := min 255 (2 * t.last)
                  fixedDeadline := min 255 (2 * t.fixedDeadline) } : Tracker).settle
                (decide (255 < 2 * t.last) || decide (255 < 2 * t.fixedDeadline)) with
              elapsed := 0
              misses := 0 }) ∧
        (t.exp = 0 ∨ 85 ≤ t.elapsed →
          t.arriveTracking =
            { ({ t with last := t.elapsed, prev := t.last } : Tracker).settle false with
              elapsed := 0
              misses := 0 })) ∧
  (∀ t : Tracker, t.mode = .fixed → t.preload = none →
      (t.scaleUp = false → t.scaleDown = false →
          t.arriveTracking =
            { t with
              last := t.elapsed
              prev := t.last
              deadline := t.fixedDeadline
              overflow := false
              elapsed := 0
              misses := 0 }) ∧
        (t.scaleUp = true → t.exp < 15 →
          t.arriveTracking =
            { t with
              exp := t.exp + 1
              last := t.elapsed / 2
              prev := t.last / 2
              fixedDeadline := max 1 (t.fixedDeadline / 2)
              deadline := max 1 (t.fixedDeadline / 2)
              overflow := false
              scaleUp := false
              scaleLimit := false
              elapsed := 0
              misses := 0 }) ∧
        (t.scaleUp = false → t.scaleDown = true → 0 < t.exp →
          t.arriveTracking =
            { t with
              exp := t.exp - 1
              last := min 255 (2 * t.elapsed)
              prev := min 255 (2 * t.last)
              fixedDeadline := min 255 (2 * t.fixedDeadline)
              deadline := min 255 (2 * t.fixedDeadline)
              overflow :=
                decide (255 < 2 * t.elapsed) || decide (255 < 2 * t.last) ||
                  decide (255 < 2 * t.fixedDeadline)
              scaleDown := false
              scaleLimit := false
              elapsed := 0
              misses := 0 }) ∧
        ((t.scaleUp = true ∧ 15 ≤ t.exp ∨
            t.scaleUp = false ∧ t.scaleDown = true ∧ t.exp = 0) →
          t.arriveTracking =
            { t with
              last := t.elapsed
              prev := t.last
              deadline := t.fixedDeadline
              overflow := false
              scaleUp := false
              scaleDown := t.scaleUp && t.scaleDown
              scaleLimit := true
              elapsed := 0
              misses := 0 }))

/-- R73, R77, R78, R89, R90: an arrival applies the preload present, field by field, a switch from FIXED
to LEARN clearing both scale requests, and the preload becomes absent. At an ARMED, OVERDUE or LAPSED
entry nothing is captured or rescaled: the deadline is settled in the mode the preload leaves. At a
TRACKING entry the capture comes first, and the rest is an arrival with no preload in that mode. -/
def Obligations.ArrivalAppliesThePreload : Prop :=
  (∀ (t : Tracker) (u : Tune),
      t.applyTune u =
        { t with
          weight := u.weight.getD t.weight
          basis := u.basis.getD t.basis
          missLimit := u.missLimit.getD t.missLimit
          gapPolicy := u.gapPolicy.getD t.gapPolicy
          mode := u.mode.getD t.mode
          fixedDeadline := u.fixedDeadline.getD t.fixedDeadline
          scaleUp :=
            if t.mode = .fixed ∧ u.mode = some .learn then false else t.scaleUp
          scaleDown :=
            if t.mode = .fixed ∧ u.mode = some .learn then false else t.scaleDown }) ∧
    (∀ t : Tracker, t.preload = none →
      t.arriveOther = { t.settle false with elapsed := 0, misses := 0 }) ∧
    ∀ (t : Tracker) (u : Tune), t.preload = some u →
      t.arriveOther = ({ t.applyTune u with preload := none } : Tracker).arriveOther ∧
        t.arriveTracking = ({ t.applyTune u with preload := none } : Tracker).arriveTracking

/-- R64, R79, R80: TICK_EXPIRY at a counting entry raises elapsed by one. A TRACKING LEARN entry
below exponent 15 that reaches 255 makes the slow-down, and lapses at once only when the relearned
deadline is at most 127; otherwise a TRACKING entry lapses at its deadline and an OVERDUE one at its
repeat deadline. With no lapse only the entry's tracker moves. An entry that does not count takes no
tick (assumption log 2). -/
def Obligations.TickExpiryCountsSlowsOrLapses : Prop :=
  (∀ (s : State) (i : Byte) (e : Entry) (t : Tracker), s.Counts i e t →
      (e.state = .tracking ∧ t.mode = .learn ∧ t.exp < 15 ∧ t.elapsed + 1 = 255 →
        ∃ t1 : Tracker,
          t1 = ({ t with
                  exp := t.exp + 1
                  elapsed := 127
                  last := t.last / 2
                  prev := t.prev / 2
                  fixedDeadline := max 1 (t.fixedDeadline / 2) } : Tracker).settle false ∧
          (127 < t1.deadline →
            exec (.tickExpiry i) s =
              .next (s.setEntry i (some { e with tracker := some t1 }))) ∧
          (t1.deadline ≤ 127 →
            exec (.tickExpiry i) s = .next (s.takeLapse i e t1))) ∧
        (¬(e.state = .tracking ∧ t.mode = .learn ∧ t.exp < 15 ∧ t.elapsed + 1 = 255) →
          (e.state = .tracking ∧ t.elapsed + 1 = t.deadline ∨
              e.state = .overdue ∧ t.elapsed + 1 = t.repeatDeadline →
            exec (.tickExpiry i) s =
              .next (s.takeLapse i e { t with elapsed := t.elapsed + 1 })) ∧
            (¬(e.state = .tracking ∧ t.elapsed + 1 = t.deadline ∨
                e.state = .overdue ∧ t.elapsed + 1 = t.repeatDeadline) →
              exec (.tickExpiry i) s =
                .next (s.setEntry i
                  (some { e with tracker := some { t with elapsed := t.elapsed + 1 } }))))) ∧
    (∀ (s : State) (i : Byte), s.running = true → (∀ e t, ¬s.Counts i e t) →
      exec (.tickExpiry i) s = .next s ∧ exec (.lapse i) s = .next s)

/-- R67, R68, R69: settling the deadline. In LEARN it is weight times the selected capture over 32,
rounded down, raised to 1 and lowered to 255, and the overflow flag is set when the unclamped value
exceeds 255 or a doubling earlier in the claim saturated. In FIXED it is the fixed deadline, and the
flag shows such a saturation alone. Nothing else changes. R100: the repeat deadline is in LEARN the
selected capture, raised to 1 when 0, and in FIXED the fixed deadline. R71: arming
re-expresses the fixed deadline in ticks of the base exponent, by doublings that saturate at 255 or
halvings kept at least 1, sets the exponent to the base, both captures to the seed and the counts to
0, clears the preload and the three scale flags, keeps the other settings, and settles the deadline,
the overflow flag showing a saturation. -/
def Obligations.DeadlinesAndArming : Prop :=
  (∀ (t : Tracker) (sat : Bool),
      (∀ c, (c = if t.basis = .last then t.last else t.prev) → t.mode = .learn →
          t.settle sat =
            { t with
              deadline :=
                if t.weight * c / 32 = 0 then 1
                else if 255 < t.weight * c / 32 then 255
                else t.weight * c / 32
              overflow := sat || decide (255 < t.weight * c / 32) }) ∧
        (t.mode = .fixed → t.settle sat = { t with deadline := t.fixedDeadline, overflow := sat })) ∧
  (∀ t : Tracker,
      (t.mode = .learn → t.basis = .last → t.repeatDeadline = if t.last = 0 then 1 else t.last) ∧
        (t.mode = .learn → t.basis = .previous →
          t.repeatDeadline = if t.prev = 0 then 1 else t.prev) ∧
        (t.mode = .fixed → t.repeatDeadline = t.fixedDeadline)) ∧
  (∀ t : Tracker,
      ∃ (fd : Nat) (sat : Bool),
        t.arm =
          ({ t with
            fixedDeadline := fd
            exp := t.baseExp
            last := t.seed
            prev := t.seed
            elapsed := 0
            misses := 0
            preload := none
            scaleUp := false
            scaleDown := false
            scaleLimit := false } : Tracker).settle sat ∧
        (t.exp = t.baseExp → fd = t.fixedDeadline ∧ sat = false) ∧
        (t.baseExp < t.exp →
          fd = Nat.iterate (fun n => min 255 (2 * n)) (t.exp - t.baseExp) t.fixedDeadline ∧
            (sat = true ↔ ∃ k, k < t.exp - t.baseExp ∧
              255 < 2 * Nat.iterate (fun n => min 255 (2 * n)) k t.fixedDeadline)) ∧
        (t.exp < t.baseExp →
          fd = Nat.iterate (fun n => max 1 (n / 2)) (t.baseExp - t.exp) t.fixedDeadline ∧
            sat = false))

/-- R29, R101, R103, R104, R106, R114: a lapse. Misses and the miss run rise by one; a MARK entry's
marker joins the egress port's cyclic queue, or is counted lost at a DOWN port or a full queue;
elapsed becomes 0; at the miss limit the entry becomes LAPSED, counts the lapse and joins the lapse
list, or sets the overflow flag of a full one, where LAPSE may raise an ALERT (R193); otherwise it is
OVERDUE. No other entry, no other queue and no port counter moves. LAPSE at an entry that awaits its
deadline with no slow-down before it, or its repeat deadline, takes that lapse. At a TRACKING LEARN
entry below exponent 15 with deadline 255 the slow-down of R79 comes first, and the lapse is taken at
once when the relearned deadline is at most 127, and otherwise as LAPSE takes it at the slowed
tracker (assumption log 5). -/
def Obligations.LapseCountsMarksAndLists : Prop :=
  (∀ (s : State) (i : Byte) (e : Entry) (t : Tracker),
    ∃ (u : State) (lost fits limit : Bool),
      s.takeLapse i e t = u ∧
      fits = (decide ((s.port e.keyPort.opp).receiver ≠ .off) &&
        decide ((s.port e.keyPort.opp).cyclic.length < 32)) ∧
      lost = (decide (t.gapPolicy = .mark) && !fits) ∧
      limit = decide (t.misses + 1 = t.missLimit) ∧
      u = { s with
            portN := u.portN
            portS := u.portS
            table := u.table
            lapseList := u.lapseList
            lapseOverflow := u.lapseOverflow
            alertSlot := u.alertSlot
            alertNumber := u.alertNumber } ∧
      u.port e.keyPort = s.port e.keyPort ∧
      u.port e.keyPort.opp =
        { s.port e.keyPort.opp with
          cyclic :=
            if t.gapPolicy = .mark ∧ fits = true then
              (s.port e.keyPort.opp).cyclic ++
                [.marker ⟨i, e.streamId, e.expSeq.getD 0, t.misses + 1⟩]
            else (s.port e.keyPort.opp).cyclic } ∧
      (∀ j, j ≠ i → u.entry j = s.entry j) ∧
      u.entry i =
        some { e with
          state := if limit then .lapsed else .overdue
          tracker := some { t with elapsed := 0, misses := t.misses + 1 }
          counters :=
            { e.counters with
              misses := satInc e.counters.misses
              markersLost :=
                if lost then satInc e.counters.markersLost else e.counters.markersLost
              lapses := if limit then satInc e.counters.lapses else e.counters.lapses } } ∧
      u.lapseList =
        (if limit = true ∧ s.lapseList.length < 32 then s.lapseList ++ [i] else s.lapseList) ∧
      u.lapseOverflow =
        (s.lapseOverflow || (limit && decide (32 ≤ s.lapseList.length))) ∧
      (u.pendingCauses.lapse = true ↔ u.lapseList ≠ [] ∨ u.lapseOverflow = true) ∧
      s.Alerted u) ∧
  ∀ (s : State) (i : Byte) (e : Entry) (t : Tracker), s.Counts i e t →
    (e.state = .overdue ∨ t.mode = .fixed ∨ t.deadline ≠ 255 ∨ 15 ≤ t.exp →
        exec (.lapse i) s = .next (s.takeLapse i e t)) ∧
      (e.state = .tracking → t.mode = .learn → t.deadline = 255 → t.exp < 15 →
        ∃ t1 : Tracker,
          t1 = ({ t with
                  exp := t.exp + 1
                  elapsed := 127
                  last := t.last / 2
                  prev := t.prev / 2
                  fixedDeadline := max 1 (t.fixedDeadline / 2) } : Tracker).settle false ∧
          (t1.deadline ≤ 127 → exec (.lapse i) s = .next (s.takeLapse i e t1)) ∧
          (127 < t1.deadline →
            exec (.lapse i) s =
              exec (.lapse i) (s.setEntry i (some { e with tracker := some t1 }))))

/-! ### The mode, the freeze input and alerts -/

/-- R30, R133, R141, R148, R190, R199: a change of the run mode. Leaving RUN moves TRACKING and
OVERDUE entries to ARMED with a miss run of 0; entering HALTED abandons cyclic and acyclic frames in
transmission, flushes the four data queues and reports both flushes, so that a PAUSED port sends
RESUME; leaving HALTED clears FROZEN. Nothing else changes. -/
def Obligations.ModeChangeMovesEntriesAndQueues : Prop :=
  ∀ (s : State) (m : RunMode),
    ∃ t : State, s.changeMode m = t ∧
      t = { s with
            mode := m
            table := t.table
            portN := t.portN
            portS := t.portS
            free := t.free
            causes :=
              { s.causes with
                frozen := s.causes.frozen && !(s.mode.isHalted && !m.isHalted) } } ∧
      (∀ i, t.entry i =
        (s.entry i).map fun e =>
          if s.mode = .run ∧ m ≠ .run ∧ (e.state = .tracking ∨ e.state = .overdue) then
            { e with
              state := .armed
              tracker := e.tracker.map fun k => { k with misses := 0 } }
          else e) ∧
      (m.isHalted = true → s.mode.isHalted = false →
        t.free.Perm (s.free ++ descrBufs s.portN.cyclic ++ s.portN.acyclic ++
          (if s.portN.tx.sendsTraffic then s.portN.tx.bufs else []) ++
          descrBufs s.portS.cyclic ++ s.portS.acyclic ++
          (if s.portS.tx.sendsTraffic then s.portS.tx.bufs else [])) ∧
        ∀ p, t.port p =
          { (s.port p).afterFlush with
            cyclic := []
            acyclic := []
            tx := if (s.port p).tx.sendsTraffic then .spacing .abort else (s.port p).tx }) ∧
      (m.isHalted = false ∨ s.mode.isHalted = true →
        t.free = s.free ∧ ∀ p, t.port p = s.port p)

/-- R159, R183: SET-MODE and HALT. SET-MODE sets the mode named, HALTED with cause COMMAND; it is
refused BAD_ARGUMENT for a code above 2 and FROZEN for BYPASS or RUN while the freeze input is
asserted. HALT makes HALTED with cause COMMAND whatever the slots hold and whether or not the unit is
HELD, and is answered DONE at once or left unanswered. R200: an assertion of the freeze input makes
the mode HALTED with cause FREEZE, with the effects of the mode change, and sets FROZEN, which may
raise an ALERT (R193); a deassertion records the level alone. A level the pin has already is no
change (assumption log 2). -/
def Obligations.ModeCommandsAndFreezeSetTheMode : Prop :=
  ((∀ (s : State) (tag : Byte), s.Ready →
        (s.freezeLow = false →
          exec (.setMode tag 0#8) s = .next ((s.changeMode .bypass).replied tag 0x05 .done 0 []) ∧
            exec (.setMode tag 1#8) s = .next ((s.changeMode .run).replied tag 0x05 .done 0 [])) ∧
          exec (.setMode tag 2#8) s =
            .next ((s.changeMode (.halted .command)).replied tag 0x05 .done 0 []) ∧
          (s.freezeLow = true → ∀ m : Byte, m.toNat < 2 →
            exec (.setMode tag m) s = .next (s.replied tag 0x05 .frozen 0 [])) ∧
          ∀ m : Byte, 2 < m.toNat →
            exec (.setMode tag m) s = .next (s.replied tag 0x05 .badArgument 0 [])) ∧
      ∀ (s : State) (tag : Byte), s.running = true →
        (s.responses.length < 8 →
            exec (.halt tag) s =
              .next ((s.changeMode (.halted .command)).replied tag 0x31 .done 0 [])) ∧
          (8 ≤ s.responses.length →
            exec (.halt tag) s =
              .next { s.changeMode (.halted .command) with
                mgmt := { s.mgmt with unanswered := satInc s.mgmt.unanswered } })) ∧
  (∀ s : State, s.running = true →
      (s.freezeLow = false →
          ∃ t : State, exec .freezeAsserted s = .next t ∧
            t = { ({ s with freezeLow := true } : State).changeMode (.halted .freeze) with
                  causes := { s.causes with frozen := true }
                  alertSlot := t.alertSlot
                  alertNumber := t.alertNumber } ∧
            t.mode = .halted .freeze ∧ s.Alerted t) ∧
        (s.freezeLow = true → exec .freezeAsserted s = .next s) ∧
        exec .freezeDeasserted s = .next { s with freezeLow := false })

/-- R193: the alert unit compares the active set before and after a claim. Only a change from empty
to non-empty acts: into an empty slot goes an ALERT with the management stream id, the alert number
raised by one, the highest pending cause and the pending set; a slot that holds a frame keeps it,
and the number. R191: the highest pending cause is the pending one with the smallest priority number
of R190's table, or none. R192: the active set holds a cause exactly when one is pending and enabled. -/
def Obligations.AlertsFollowTheActiveSet : Prop :=
  (∀ (s : State) (claim : State → State),
      (s.anyActive = false → (claim s).anyActive = true → (claim s).alertSlot = none →
          s.alerting claim =
            { claim s with
              alertNumber := (claim s).alertNumber + 1
              alertSlot :=
                some ⟨(claim s).mgmtId, (claim s).alertNumber + 1,
                  (claim s).pendingCauses.highest, (claim s).pendingCauses⟩ }) ∧
        (s.anyActive = true ∨ (claim s).anyActive = false ∨ (claim s).alertSlot ≠ none →
          s.alerting claim = claim s)) ∧
  (∀ (s : State) (p e : CauseSet), p = s.pendingCauses → e = s.enables →
      (s.anyActive = true ↔
        (p.linkEvent = true ∧ e.linkEvent = true) ∨ (p.frozen = true ∧ e.frozen = true) ∨
          (p.poolExhausted = true ∧ e.poolExhausted = true) ∨
          (p.lapse = true ∧ e.lapse = true) ∨ (p.holdExpired = true ∧ e.holdExpired = true) ∨
          (p.diverted = true ∧ e.diverted = true))) ∧
  (∀ c : CauseSet,
      (c.highest = 0 ↔ c = ⟨false, false, false, false, false, false⟩) ∧
        (c.linkEvent = true → c.highest = 1) ∧
        (c.highest = 2 ↔ c.linkEvent = false ∧ c.frozen = true) ∧
        (c.highest = 3 ↔ c.linkEvent = false ∧ c.frozen = false ∧ c.poolExhausted = true) ∧
        (c.highest = 4 ↔
          c.linkEvent = false ∧ c.frozen = false ∧ c.poolExhausted = false ∧ c.lapse = true) ∧
        (c.highest = 5 ↔
          c.linkEvent = false ∧ c.frozen = false ∧ c.poolExhausted = false ∧ c.lapse = false ∧
            c.holdExpired = true) ∧
        (c.highest = 6 ↔
          c.linkEvent = false ∧ c.frozen = false ∧ c.poolExhausted = false ∧ c.lapse = false ∧
            c.holdExpired = false ∧ c.diverted = true))

/-! ### Requests, the slots and responses

A request row is taken whatever port N's receiver is, with port N DOWN too: the model's choice
(assumption log 18). -/

/-- R150: a request row is the arrival of its request, with the management stream id of that moment,
whatever port N's receiver is, OFF too (the model's choice, assumption log 18), and so is the EOF of
its frame on port N (assumption log 1), whose buffer goes to the front of the list of free ones
(assumption log 6). -/
def Obligations.RequestRowsAreArrivals : Prop :=
  (∀ (c : Instr) (tag : Byte) (cmd : Command) (s : State),
      requestOf c = some (tag, cmd) → s.running = true →
      exec c s = .next (s.takeRequest ⟨s.mgmtId, tag, cmd⟩)) ∧
    ∀ (s : State) (b : BufId) (f : Frame) (c : Instr) (cmd : Command),
      s.Filling .N b → parseFrame s.contents[b] = some f → f.kind = .mgmtReq →
      f.streamId = s.mgmtId → f.payload = cmd.payload → requestOf c = some (f.seq, cmd) →
      exec (.eof .N) s = exec c { s.received .N with free := b :: s.free }

/-- R151, R154: what admission refuses and what it makes wait. A payload that names no command or
has the wrong length is refused BAD_COMMAND, its code or 0 echoed; LOAD-DATA outside a load phase is
refused NOT_LOADING; while HELD a slot command but the four admitted ones is refused HELD; an
admitted one waits behind an occupied executing slot, or is refused BUSY when both are occupied. A
refusal is placed at once, or with 8 responses queued the request is discarded and counted
unanswered. -/
def Obligations.AdmissionRefusesOrWaits : Prop :=
  ∀ (s : State) (refuse : Byte → Byte → Status → State), s.running = true →
    (∀ tag code st, refuse tag code st =
      if s.responses.length < 8 then s.replied tag code st 0 []
      else { s with mgmt := { s.mgmt with unanswered := satInc s.mgmt.unanswered } }) →
    (∀ (tag : Byte) (payload : List Byte), badPayload payload = true →
        exec (.badCommand tag payload) s =
          .next (refuse tag (payload.headD 0) .badCommand)) ∧
      (∀ (tag : Byte) (r : EntryRecord),
        (∀ bulk, s.mgmt.executing ≠ some (.loading bulk)) →
        exec (.loadData tag r) s = .next (refuse tag 0x21 .notLoading)) ∧
      ∀ (c : Instr) (tag : Byte) (cmd : Command),
        requestOf c = some (tag, cmd) → isSlotCommand cmd = true →
        (s.mgmt.heldEvent = true →
            cmd ≠ .identify → cmd ≠ .readStatus → cmd ≠ .readAlerts → cmd ≠ .ackEvent →
            exec c s = .next (refuse tag cmd.code .held)) ∧
          (s.mgmt.heldEvent = false ∨
              (cmd = .identify ∨ cmd = .readStatus ∨ cmd = .readAlerts ∨ cmd = .ackEvent) →
            (s.mgmt.executing ≠ none → s.mgmt.waiting = none →
                exec c s =
                  .next { s with mgmt := { s.mgmt with waiting := some ⟨s.mgmtId, tag, cmd⟩ } }) ∧
              (s.mgmt.executing ≠ none → s.mgmt.waiting ≠ none →
                exec c s = .next (refuse tag cmd.code .busy)))

/-- R152, R153: a slot command admitted to empty slots executes at its arrival. Its effect is made,
and its built response is placed, or with 8 responses queued stays in the executing slot.
COMMAND_COMPLETION places the response when a place is free, empties the slot and moves the waiting
request up, which then executes as it would at its arrival. With the queue full, or no built response
waiting, it changes nothing (assumption logs 2 and 17). -/
def Obligations.CompletionWaitsForAPlace : Prop :=
  (∀ (s : State) (c : Instr) (tag : Byte) (cmd : Command),
      requestOf c = some (tag, cmd) → isSlotCommand cmd = true → s.running = true →
      (s.mgmt.heldEvent = false ∨
        (cmd = .identify ∨ cmd = .readStatus ∨ cmd = .readAlerts ∨ cmd = .ackEvent)) →
      s.mgmt.executing = none → s.mgmt.waiting = none →
      exec c s = .next (s.execute ⟨s.mgmtId, tag, cmd⟩) ∧
        ((∀ st n, cmd ≠ .bulkLoad st n) →
          exec c s =
            .next ((runSlot cmd s).state.completed
              ⟨s.mgmtId, tag, cmd.code, (runSlot cmd s).status, 0, (runSlot cmd s).data⟩))) ∧
    (∀ s : State, s.running = true → (∀ r, s.mgmt.executing ≠ some (.built r)) →
      exec .commandCompletion s = .next s) ∧
    ∀ (s : State) (r : Response), s.running = true → s.mgmt.executing = some (.built r) →
      (8 ≤ s.responses.length → exec .commandCompletion s = .next s) ∧
        (s.responses.length < 8 → exec .commandCompletion s = .next (s.completed r))

/-- R175, R176, R208: IDENTIFY returns the fixed identity; READ-STATUS returns the snapshot of its
execution, 47 bytes, each of them shown, with the codes of statuses and the bits of cause sets (R204,
R207). Neither changes anything but the response queue, and both are admitted while HELD. -/
def Obligations.IdentifyAndReadStatusReport : Prop :=
  StatusCodes ∧ CauseBits ∧ HighByteFirst ∧
  ∀ (s : State) (tag : Byte), s.Idle →
    exec (.identify tag) s =
        .next (s.replied tag 0x01 .done 0
          [0x2E, 0x71, 0x04, 0x12, 0x03, 0x01, 0x00, 0xA0]) ∧
      ∃ d : List Byte,
        exec (.readStatus tag) s = .next (s.replied tag 0x02 .done 0 d) ∧ d.length = 47 ∧
          d.take 2 =
            (match s.mode with
            | .bypass => [0, 0]
            | .run => [1, 0]
            | .halted .command => [2, 1]
            | .halted .freeze => [2, 2]) ∧
          d.getD 2 0 = (if s.freezeLow then 1 else 0) ∧
          (d.drop 3).take 2 = be16 (s.mgmtId.setWidth 16) ∧
          ((d.getD 5 0).getLsbD 0 = s.mgmt.heldEvent ∧
            (d.getD 5 0).getLsbD 1 = s.mgmt.escalated ∧
            (d.getD 5 0).getLsbD 2 = s.mgmt.escTimer.isSome) ∧
          (d.drop 6).take 4 = be32 s.mgmt.unanswered ∧
          (d.drop 10).take 4 = be32 s.mgmt.linkEvents ∧
          (d.drop 14).take 6 =
            be16 (BitVec.ofNat 16 s.mgmt.nextIndex) ++ [BitVec.ofNat 8 s.mgmt.remaining] ++
              be16 (BitVec.ofNat 16 s.mgmt.reload) ++ [BitVec.ofNat 8 s.mgmt.step] ∧
          (d.drop 20).take 5 =
            (match s.mgmt.lastLoad with
            | none => [0, 0, 0, 0, 0]
            | some r =>
              [1, r.status.code, BitVec.ofNat 8 r.step] ++ be16 (BitVec.ofNat 16 r.next)) ∧
          (∀ p : Port,
            (d.drop (if p = .N then 25 else 29)).take 4 =
              [(if (s.port p).receiver = .off then 0 else 1),
                (if (s.port p).pauseState = .paused then 1 else 0),
                (if (s.port p).held then 1 else 0),
                (match (s.port p).controlSlot with
                | none => 0
                | some .pause => 1
                | some .resume => 2)]) ∧
          (d.drop 33).take 7 =
            [BitVec.ofNat 8 s.free.length, BitVec.ofNat 8 s.portN.cyclic.length,
              BitVec.ofNat 8 s.portN.acyclic.length, BitVec.ofNat 8 s.portS.cyclic.length,
              BitVec.ofNat 8 s.portS.acyclic.length, BitVec.ofNat 8 s.divert.length,
              BitVec.ofNat 8 s.responses.length] ∧
          (∀ g : Fin 8, (d.getD 40 0).getLsbD g = decide (s.gates[g] = .closed) ∧
            (d.getD 41 0).getLsbD g = s.groupLocks[g]) ∧
          d.drop 42 =
            [(if s.configLock then 1 else 0), BitVec.ofNat 8 s.lapseList.length,
              (if s.lapseOverflow then 1 else 0), s.pendingCauses.byte, s.enables.byte]

/-- R163, R195: READ-ALERTS returns the pending set, the enable set (bit n − 1 for the cause of
priority n, R204) and the highest cause, and clears POOL_EXHAUSTED and HOLD_EXPIRED; ACK-EVENT clears
HELD, LINK_EVENT, the escalation timer and the escalated flag. Both are admitted while HELD and
change nothing else. -/
def Obligations.ReadAlertsAndAckEventClear : Prop :=
  CauseBits ∧
  ∀ (s : State) (tag : Byte), s.Idle →
    exec (.readAlerts tag) s =
        .next (({ s with
          causes := { s.causes with poolExhausted := false, holdExpired := false } } :
            State).replied tag 0x03 .done 0
          [s.pendingCauses.byte, s.enables.byte, BitVec.ofNat 8 s.pendingCauses.highest]) ∧
      exec (.ackEvent tag) s =
        .next (({ s with
          mgmt := { s.mgmt with heldEvent := false, escTimer := none, escalated := false }
          causes := { s.causes with linkEvent := false } } : State).replied tag 0x04 .done 0 [])

/-- R136, R137, R184: SET-PORT in range, the configuration lock clear, writes the port's five
settings and, for port N, the escalation time, and nothing else; an argument out of range is refused
BAD_ARGUMENT, and after that a set configuration lock LOCKED. R182, R193: SET-ALERTS replaces the
enable set whole, and an ALERT is raised when that makes the active set non-empty; a set bit 6 or 7
is refused BAD_ARGUMENT, and after that a set configuration lock LOCKED. -/
def Obligations.SetPortAndSetAlertsWriteSettings : Prop :=
  (∀ (s : State) (tag : Byte) (p : Port) (mp : MissPolicy) (a : PortArgs), s.Ready →
      (∀ ok : Prop, (ok ↔ a.port.toNat ≤ 1 ∧ a.missPolicy.toNat ≤ 2 ∧
          (2 ≤ a.upper.toNat ∧ a.upper.toNat ≤ 64) ∧ a.lower.toNat ≤ 63 ∧
          a.lower.toNat < a.upper.toNat ∧
          (a.pauseRepeat = 1 ∨ a.pauseRepeat = 4 ∨ a.pauseRepeat = 8 ∨ a.pauseRepeat = 16) ∧
          a.holdTimeout ≠ 0) →
        (¬ok → exec (.setPort tag a) s = .next (s.replied tag 0x06 .badArgument 0 [])) ∧
          (ok → s.configLock = true →
            exec (.setPort tag a) s = .next (s.replied tag 0x06 .locked 0 [])) ∧
          (ok → s.configLock = false →
            (p = .N ↔ a.port = 0) → (mp = .forward ↔ a.missPolicy = 0) →
            (mp = .drop ↔ a.missPolicy = 1) →
            exec (.setPort tag a) s =
              .next (({ s.modPort p fun ps =>
                  { ps with
                    settings :=
                      ⟨mp, a.upper.toNat, a.lower.toNat, a.pauseRepeat.toNat,
                        a.holdTimeout.toNat⟩ } with
                mgmt :=
                  if p = .N then { s.mgmt with escTime := a.escalation.toNat } else s.mgmt } :
                State).replied tag 0x06 .done 0 [])))) ∧
  (∀ (s : State) (tag e : Byte), s.Ready →
      (64 ≤ e.toNat → exec (.setAlerts tag e) s = .next (s.replied tag 0x07 .badArgument 0 [])) ∧
        (e.toNat < 64 → s.configLock = true →
          exec (.setAlerts tag e) s = .next (s.replied tag 0x07 .locked 0 [])) ∧
        (e.toNat < 64 → s.configLock = false →
          ∃ u : State, exec (.setAlerts tag e) s = .next (u.replied tag 0x07 .done 0 []) ∧
            u = s.alerting (fun x =>
              { x with
                enables :=
                  ⟨e.getLsbD 0, e.getLsbD 1, e.getLsbD 2, e.getLsbD 3, e.getLsbD 4,
                    e.getLsbD 5⟩ })))

/-! ### Entries -/

/-- R206: the codes of the port and of an entry's fields. R22, R206: the entry a record in range
writes: key, action, class, group, seq check, cadence mode and tracker settings from the record,
expected seq absent, counters 0, ARMED or SUSPENDED by the arm flag's bit 0, and the running fields
as arming sets them. With cadence mode OFF there is no tracker, and the record's tracker bytes are
not read. R21, R22, R23, R34: WRITE-ENTRY's checks in their order, each refusal leaving the table as
it was, and the write of a record that passes them. -/
def Obligations.WriteEntryChecksAndWrites : Prop :=
  PortCodes ∧ EntryFieldCodes ∧
  ((∀ r : EntryRecord, (entryOf r).isSome ↔
        r.keyPort.toNat ≤ 1 ∧ r.streamId.toNat ≤ 4095 ∧ r.action.toNat ≤ 2 ∧ r.cls.toNat ≤ 1 ∧
          r.group.toNat ≤ 7 ∧ r.seqCheck.toNat ≤ 1 ∧ r.cadenceMode.toNat ≤ 2 ∧
          (r.cadenceMode ≠ 0 →
            r.exponent.toNat ≤ 15 ∧ r.seed ≠ 0 ∧ r.weight ≠ 0 ∧ r.basis.toNat ≤ 1 ∧
              r.fixedDeadline ≠ 0 ∧ (1 ≤ r.missLimit.toNat ∧ r.missLimit.toNat ≤ 15) ∧
              r.gapPolicy.toNat ≤ 1)) ∧
      ∀ (r : EntryRecord) (e : Entry), entryOf r = some e →
        portCode e.keyPort = r.keyPort ∧ e.streamId.toNat = r.streamId.toNat ∧
          actionCode e.action = r.action ∧ classCode e.cls = r.cls ∧
          e.group.val = r.group.toNat ∧ (e.seqCheck = true ↔ r.seqCheck = 1) ∧
          e.expSeq = none ∧ e.counters = ⟨0, 0, 0, 0, 0, 0, 0⟩ ∧
          e.state = (if r.armFlag.getLsbD 0 then .armed else .suspended) ∧
          (r.cadenceMode = 0 ↔ e.tracker = none) ∧
          ∀ t, e.tracker = some t →
            trackModeCode t.mode = r.cadenceMode ∧ t.baseExp = r.exponent.toNat ∧
              t.seed = r.seed.toNat ∧ t.weight = r.weight.toNat ∧ basisCode t.basis = r.basis ∧
              t.fixedDeadline = r.fixedDeadline.toNat ∧ t.missLimit = r.missLimit.toNat ∧
              gapPolicyCode t.gapPolicy = r.gapPolicy ∧ t.exp = r.exponent.toNat ∧
              t.last = r.seed.toNat ∧ t.prev = r.seed.toNat ∧ t.elapsed = 0 ∧ t.misses = 0 ∧
              t.preload = none ∧ t.scaleUp = false ∧ t.scaleDown = false ∧ t.scaleLimit = false ∧
              t = t.settle false) ∧
  (∀ (s : State) (tag i : Byte) (r : EntryRecord), s.Ready →
      (entryOf r = none →
          exec (.writeEntry tag i r) s = .next (s.replied tag 0x10 .badArgument 0 [])) ∧
        ∀ e, entryOf r = some e →
          (e.keyPort = .N ∧ e.streamId = s.mgmtId →
              exec (.writeEntry tag i r) s = .next (s.replied tag 0x10 .badArgument 0 [])) ∧
            (¬(e.keyPort = .N ∧ e.streamId = s.mgmtId) →
              ∀ locked active dup : Prop,
                (locked ↔ s.groupLocks[e.group] = true ∨
                  ∃ old, s.entry i = some old ∧ s.groupLocks[old.group] = true) →
                (active ↔ ∃ old, s.entry i = some old ∧ old.state ≠ .suspended) →
                (dup ↔ ∃ j x, j ≠ i ∧ s.entry j = some x ∧ x.keyPort = e.keyPort ∧
                  x.streamId = e.streamId) →
                (locked →
                    exec (.writeEntry tag i r) s = .next (s.replied tag 0x10 .locked 0 [])) ∧
                  (¬locked → active →
                    exec (.writeEntry tag i r) s = .next (s.replied tag 0x10 .entryState 0 [])) ∧
                  (¬locked → ¬active → dup →
                    exec (.writeEntry tag i r) s =
                      .next (s.replied tag 0x10 .duplicateKey 0 [])) ∧
                  (¬locked → ¬active → ¬dup →
                    exec (.writeEntry tag i r) s =
                      .next ((s.setEntry i (some e)).replied tag 0x10 .done 0 []))))

/-- R24: ARM-ENTRY by the entry's state and lock. R25: SUSPEND-ENTRY by the entry's state and lock;
suspending keeps every field and removes the index from the lapse list. R26: FREE-ENTRY by the
entry's state and lock. -/
def Obligations.ArmSuspendFreeByStateAndLock : Prop :=
  (∀ (s : State) (tag i : Byte), s.Ready →
      (s.entry i = none →
          exec (.armEntry tag i) s = .next (s.replied tag 0x13 .entryState 0 [])) ∧
        ∀ e, s.entry i = some e →
          (s.groupLocks[e.group] = true →
              exec (.armEntry tag i) s = .next (s.replied tag 0x13 .locked 0 [])) ∧
            (s.groupLocks[e.group] = false → e.state ≠ .suspended →
              exec (.armEntry tag i) s = .next (s.replied tag 0x13 .done 0 [])) ∧
            (s.groupLocks[e.group] = false → e.state = .suspended →
              exec (.armEntry tag i) s =
                .next ((s.setEntry i (some { e with
                  state := .armed
                  expSeq := none
                  tracker := e.tracker.map Tracker.arm })).replied tag 0x13 .done 0 []))) ∧
  (∀ (s : State) (tag i : Byte), s.Ready →
      (s.entry i = none →
          exec (.suspendEntry tag i) s = .next (s.replied tag 0x14 .entryState 0 [])) ∧
        ∀ e, s.entry i = some e →
          (s.groupLocks[e.group] = true →
              exec (.suspendEntry tag i) s = .next (s.replied tag 0x14 .locked 0 [])) ∧
            (s.groupLocks[e.group] = false → e.state = .suspended →
              exec (.suspendEntry tag i) s = .next (s.replied tag 0x14 .done 0 [])) ∧
            (s.groupLocks[e.group] = false → e.state ≠ .suspended →
              exec (.suspendEntry tag i) s =
                .next (({ s.setEntry i (some { e with state := .suspended }) with
                  lapseList := s.lapseList.filter (· != i) } : State).replied tag 0x14 .done 0 []))) ∧
  (∀ (s : State) (tag i : Byte), s.Ready →
      (s.entry i = none →
          exec (.freeEntry tag i) s = .next (s.replied tag 0x12 .done 0 [])) ∧
        ∀ e, s.entry i = some e →
          (s.groupLocks[e.group] = true →
              exec (.freeEntry tag i) s = .next (s.replied tag 0x12 .locked 0 [])) ∧
            (s.groupLocks[e.group] = false → e.state = .suspended →
              exec (.freeEntry tag i) s =
                .next ((s.setEntry i none).replied tag 0x12 .done 0 [])) ∧
            (s.groupLocks[e.group] = false → e.state ≠ .suspended →
              exec (.freeEntry tag i) s = .next (s.replied tag 0x12 .entryState 0 [])))

/-- R85, R205, R206: the fields a tune record gives, by the codes of an entry's fields: each stands
for its mask bit, in range, and an ungiven field's byte is not tested. R27, R85, R86, R87, R88:
TUNE-ENTRY of a record whose given fields are in range. A SUSPENDED or ARMED entry takes the fields
at once: its preload becomes absent, its miss run is brought down to the miss limit and its deadline
is settled; at a TRACKING, OVERDUE or LAPSED entry they become its preload, and an empty record makes
that absent. Nothing else changes. The refusals come in the order of R85 and R27. -/
def Obligations.TuneEntryWritesOrPreloads : Prop :=
  EntryFieldCodes ∧
  ((∀ r : TuneRecord, (tuneOf r).isSome ↔
        (r.mask.getLsbD 0 = true → r.weight ≠ 0) ∧
          (r.mask.getLsbD 1 = true → r.basis.toNat ≤ 1) ∧
          (r.mask.getLsbD 2 = true → 1 ≤ r.missLimit.toNat ∧ r.missLimit.toNat ≤ 15) ∧
          (r.mask.getLsbD 3 = true → r.gapPolicy.toNat ≤ 1) ∧
          (r.mask.getLsbD 4 = true → r.mode = 1 ∨ r.mode = 2) ∧
          (r.mask.getLsbD 5 = true → r.fixedDeadline ≠ 0)) ∧
      ∀ (r : TuneRecord) (u : Tune), tuneOf r = some u →
        u.weight = (if r.mask.getLsbD 0 then some r.weight.toNat else none) ∧
          u.basis.map basisCode = (if r.mask.getLsbD 1 then some r.basis else none) ∧
          u.missLimit = (if r.mask.getLsbD 2 then some r.missLimit.toNat else none) ∧
          u.gapPolicy.map gapPolicyCode = (if r.mask.getLsbD 3 then some r.gapPolicy else none) ∧
          u.mode.map trackModeCode = (if r.mask.getLsbD 4 then some r.mode else none) ∧
          u.fixedDeadline = (if r.mask.getLsbD 5 then some r.fixedDeadline.toNat else none)) ∧
  (∀ (s : State) (tag i : Byte) (r : TuneRecord), s.Ready →
      (tuneOf r = none →
          exec (.tuneEntry tag i r) s = .next (s.replied tag 0x15 .badArgument 0 [])) ∧
        ∀ u, tuneOf r = some u →
          (s.entry i = none →
              exec (.tuneEntry tag i r) s = .next (s.replied tag 0x15 .entryState 0 [])) ∧
            ∀ e, s.entry i = some e →
              (s.groupLocks[e.group] = true →
                  exec (.tuneEntry tag i r) s = .next (s.replied tag 0x15 .locked 0 [])) ∧
                (s.groupLocks[e.group] = false → e.tracker = none →
                  exec (.tuneEntry tag i r) s = .next (s.replied tag 0x15 .entryState 0 [])) ∧
                ∀ t, s.groupLocks[e.group] = false → e.tracker = some t →
                  exec (.tuneEntry tag i r) s =
                    .next ((s.setEntry i (some { e with
                      tracker :=
                        some (if e.state = .suspended ∨ e.state = .armed then
                          ({ t.applyTune u with
                            preload := none
                            misses := min t.misses (u.missLimit.getD t.missLimit) } :
                              Tracker).settle false
                        else
                          { t with
                            preload :=
                              if u = ⟨none, none, none, none, none, none⟩ then none
                              else some u }) })).replied tag 0x15 .done 0 []))

/-- R27, R92: STEP-SCALE's checks in their order, and its effect: the flag of the named direction is
set, and nothing else changes. -/
def Obligations.StepScaleSetsOneFlag : Prop :=
  ∀ (s : State) (tag i d : Byte), s.Ready →
    (1 < d.toNat →
        exec (.stepScale tag i d) s = .next (s.replied tag 0x16 .badArgument 0 [])) ∧
      (d.toNat ≤ 1 → s.entry i = none →
        exec (.stepScale tag i d) s = .next (s.replied tag 0x16 .entryState 0 [])) ∧
      ∀ e, d.toNat ≤ 1 → s.entry i = some e →
        (s.groupLocks[e.group] = true →
            exec (.stepScale tag i d) s = .next (s.replied tag 0x16 .locked 0 [])) ∧
          (s.groupLocks[e.group] = false → e.tracker = none →
            exec (.stepScale tag i d) s = .next (s.replied tag 0x16 .entryState 0 [])) ∧
          ∀ t, s.groupLocks[e.group] = false → e.tracker = some t →
            (t.mode = .learn →
                exec (.stepScale tag i d) s = .next (s.replied tag 0x16 .entryState 0 [])) ∧
              (t.mode = .fixed →
                exec (.stepScale tag i d) s =
                  .next ((s.setEntry i (some { e with
                    tracker := some { t with
                      scaleUp := t.scaleUp || d == 0
                      scaleDown := t.scaleDown || d == 1 } })).replied tag 0x16 .done 0 []))

/-- R20: under the key law the lookup finds exactly the entry that holds the key, and none when no
entry does. R180: FIND-ENTRY returns the index and the state's code (R208) of the entry the lookup
finds, EMPTY when it finds none, and BAD_ARGUMENT for a bad port code or a stream id above 4095; it
changes nothing but the response queue. -/
def Obligations.FindEntryLooksUpTheKey : Prop :=
  PortCodes ∧ StateCodes ∧
  (∀ (s : State) (p : Port) (sid : StreamId),
      (s.KeyLaw → ∀ i e, s.entry i = some e → e.keyPort = p → e.streamId = sid →
          s.lookup p sid = some i) ∧
        ((∀ i e, s.entry i = some e → ¬(e.keyPort = p ∧ e.streamId = sid)) → s.lookup p sid = none)) ∧
  (∀ (s : State) (tag : Byte), s.Ready →
        ∀ (q : Byte) (id : Word16),
          (1 < q.toNat ∨ 4095 < id.toNat →
              exec (.findEntry tag q id) s = .next (s.replied tag 0x17 .badArgument 0 [])) ∧
            ∀ p, portCode p = q → id.toNat ≤ 4095 →
              (s.lookup p (id.setWidth 12) = none →
                  exec (.findEntry tag q id) s = .next (s.replied tag 0x17 .empty 0 [])) ∧
                ∀ i e, s.lookup p (id.setWidth 12) = some i → s.entry i = some e →
                  exec (.findEntry tag q id) s =
                    .next (s.replied tag 0x17 .done 0 [i, stateCode e.state]))

/-- R179, R206, R208, R209: READ-ENTRY returns the entry image, 61 bytes, each of them shown with the
codes of its fields, a FREE entry as zeros. It changes nothing but the response queue. R177:
READ-COUNTERS returns one counter set in R177's order, seven of an entry (zeros for a FREE one) or
thirteen of a port, and with the clear flag ON sets them to 0 and nothing else; its three bad
arguments. -/
def Obligations.ReadEntryAndReadCountersReport : Prop :=
  StateCodes ∧ PortCodes ∧ EntryFieldCodes ∧ HighByteFirst ∧
  (∀ (s : State) (tag : Byte), s.Ready →
      (∀ i, ∃ d : List Byte,
          exec (.readEntry tag i) s = .next (s.replied tag 0x11 .done 0 d) ∧ d.length = 61 ∧
            (s.entry i = none → d = List.replicate 61 0) ∧
            ∀ e, s.entry i = some e →
              d.take 12 =
                  [stateCode e.state, portCode e.keyPort] ++ be16 (e.streamId.setWidth 16) ++
                    [actionCode e.action, classCode e.cls, BitVec.ofNat 8 e.group.val,
                      (if e.seqCheck then 1 else 0), (if e.expSeq = none then 0 else 1),
                      e.expSeq.getD 0,
                      (match e.tracker with
                      | none => 0
                      | some t => trackModeCode t.mode),
                      (if i ∈ s.lapseList then 1 else 0)] ∧
                (e.tracker = none → (d.drop 12).take 21 = List.replicate 21 0) ∧
                (∀ t, e.tracker = some t →
                  (d.drop 12).take 13 =
                    [BitVec.ofNat 8 t.baseExp, BitVec.ofNat 8 t.seed, BitVec.ofNat 8 t.weight,
                      basisCode t.basis, BitVec.ofNat 8 t.fixedDeadline,
                      BitVec.ofNat 8 t.missLimit, gapPolicyCode t.gapPolicy,
                      BitVec.ofNat 8 t.exp, BitVec.ofNat 8 t.elapsed, BitVec.ofNat 8 t.last,
                      BitVec.ofNat 8 t.prev, BitVec.ofNat 8 t.deadline,
                      BitVec.ofNat 8 t.misses] ∧
                  (∀ k, (d.getD 25 0).getLsbD k =
                    [t.overflow, t.scaleUp, t.scaleDown, t.scaleLimit].getD k false) ∧
                  (t.preload = none → (d.drop 26).take 7 = List.replicate 7 0) ∧
                  (∀ u, t.preload = some u →
                    (∀ k, (d.getD 26 0).getLsbD k =
                      [u.weight.isSome, u.basis.isSome, u.missLimit.isSome, u.gapPolicy.isSome,
                        u.mode.isSome, u.fixedDeadline.isSome].getD k false) ∧
                      (d.drop 27).take 6 =
                        [BitVec.ofNat 8 (u.weight.getD 0), (u.basis.map basisCode).getD 0,
                          BitVec.ofNat 8 (u.missLimit.getD 0),
                          (u.gapPolicy.map gapPolicyCode).getD 0,
                          (u.mode.map trackModeCode).getD 0,
                          BitVec.ofNat 8 (u.fixedDeadline.getD 0)])) ∧
                d.drop 33 =
                  be32 e.counters.passed ++ be32 e.counters.dropped ++
                    be32 e.counters.duplicates ++ be32 e.counters.slips ++
                    be32 e.counters.misses ++ be32 e.counters.lapses ++
                    be32 e.counters.markersLost)) ∧
  (∀ (s : State) (tag : Byte), s.Ready →
      (∀ kind target clear : Byte,
          1 < kind.toNat ∨ 1 < clear.toNat ∨ (kind = 1 ∧ 1 < target.toNat) →
          exec (.readCounters tag kind target clear) s =
            .next (s.replied tag 0x18 .badArgument 0 [])) ∧
        (∀ (i clear : Byte) (k : EntryCounters), clear.toNat ≤ 1 →
          k = (match s.entry i with
            | none => ⟨0, 0, 0, 0, 0, 0, 0⟩
            | some e => e.counters) →
          exec (.readCounters tag 0 i clear) s =
            .next ((if clear = 1 then
                s.modEntry i fun e => { e with counters := ⟨0, 0, 0, 0, 0, 0, 0⟩ }
              else s).replied tag 0x18 .done 0
                ([0, i] ++ be32 k.passed ++ be32 k.dropped ++ be32 k.duplicates ++ be32 k.slips ++
                  be32 k.misses ++ be32 k.lapses ++ be32 k.markersLost))) ∧
        ∀ (p : Port) (clear : Byte) (k : PortCounters), clear.toNat ≤ 1 → k = (s.port p).counters →
          exec (.readCounters tag 1 (portCode p) clear) s =
            .next ((if clear = 1 then
                s.modPort p fun ps =>
                  { ps with counters := ⟨0, 0, 0, 0, 0, 0, 0, 0, 0, 0, 0, 0, 0⟩ }
              else s).replied tag 0x18 .done 0
                ([1, portCode p] ++ be32 k.intact ++ be32 k.errored ++ be32 k.aborted ++
                  be32 k.noBuffer ++ be32 k.lineResets ++ be32 k.downEvents ++ be32 k.misses ++
                  be32 k.haltedDrops ++ be32 k.downDrops ++ be32 k.queueFull ++
                  be32 k.pausesSent ++ be32 k.resumesSent ++ be32 k.holdExpiries)))

/-! ### Reports, gates, locks and identity -/

/-- R113: READ-LAPSES answers EMPTY for an empty list with the flag clear, and otherwise returns and
removes the oldest indices, at most 8, and returns and clears the overflow flag. R58, R181:
READ-DIVERTED answers EMPTY for an empty queue, and otherwise removes the head, frees its buffer and
returns the ingress port's code, the entry index or its absence, the code of the frame's kind (R4),
its stream id high byte first, its seq and length, a truncated flag, and the first 224 payload bytes.
The freed buffer goes to the front of the list of free ones (assumption log 6). -/
def Obligations.ReadLapsesAndReadDivertedRemove : Prop :=
  PortCodes ∧ KindCodes ∧ HighByteFirst ∧
  (∀ (s : State) (tag : Byte), s.Ready →
      (s.lapseList = [] → s.lapseOverflow = false →
          exec (.readLapses tag) s = .next (s.replied tag 0x22 .empty 0 [])) ∧
        (s.lapseList ≠ [] ∨ s.lapseOverflow = true →
          exec (.readLapses tag) s =
            .next (({ s with lapseList := s.lapseList.drop 8, lapseOverflow := false } :
              State).replied tag 0x22 .done 0
              ([BitVec.ofNat 8 (min 8 s.lapseList.length), (if s.lapseOverflow then 1 else 0),
                BitVec.ofNat 8 (s.lapseList.length - 8)] ++ s.lapseList.take 8)))) ∧
  (∀ (s : State) (tag : Byte), s.Ready →
      (s.divert = [] → exec (.readDiverted tag) s = .next (s.replied tag 0x23 .empty 0 [])) ∧
        ∀ (d : DivertDescr) (rest : List DivertDescr) (f : Frame),
          s.divert = d :: rest → parseFrame s.contents[d.buf] = some f →
          exec (.readDiverted tag) s =
            .next (({ s with divert := rest, free := d.buf :: s.free } : State).replied tag 0x23
              .done 0
              ([portCode d.ingress, (if d.entry = none then 0 else 1), d.entry.getD 0,
                BitVec.ofNat 8 f.kind.code] ++ be16 (f.streamId.setWidth 16) ++
                [f.seq, BitVec.ofNat 8 f.payload.length,
                  (if 224 < f.payload.length then 1 else 0)] ++ f.payload.take 224)))

/-- R31, R32: SET-GATE's checks in their order and its effect. Closing an OPEN gate moves the
group's TRACKING and OVERDUE entries to ARMED with a miss run of 0; opening moves no entry. -/
def Obligations.SetGateMovesItsGroup : Prop :=
  (∀ (s : State) (tag g o : Byte), s.Ready → (8 ≤ g.toNat ∨ 1 < o.toNat) →
      exec (.setGate tag g o) s = .next (s.replied tag 0x09 .badArgument 0 [])) ∧
    ∀ (s : State) (tag : Byte) (g : Fin 8) (o : Gate) (gb ob : Byte), s.Ready →
      gb = BitVec.ofNat 8 g.val → ob = (if o = .closed then 1 else 0) →
      (s.groupLocks[g] = true →
          exec (.setGate tag gb ob) s = .next (s.replied tag 0x09 .locked 0 [])) ∧
        (s.groupLocks[g] = false → s.gates[g] = o →
          exec (.setGate tag gb ob) s = .next (s.replied tag 0x09 .done 0 [])) ∧
        (s.groupLocks[g] = false → s.gates[g] ≠ o →
          ∃ t : State, exec (.setGate tag gb ob) s = .next (t.replied tag 0x09 .done 0 []) ∧
            t = { s with table := t.table, gates := s.gates.set g o } ∧
            ∀ i, t.entry i =
              (s.entry i).map fun e =>
                if o = .closed ∧ e.group = g ∧ (e.state = .tracking ∨ e.state = .overdue) then
                  { e with
                    state := .armed
                    tracker := e.tracker.map fun k => { k with misses := 0 } }
                else e)

/-- R33, R188: SET-LOCK sets the named group's lock, or for 8 the configuration lock; SET-IDENT sets
the management stream id unless an entry holds it with port N; their refusals. Nothing else changes.
R10, R186, R187: SEND-LINE-RESET naming port S cuts any frame in transmission there, its buffer
freed, and enters BREAK; S's queues, control slot and flow controller keep what they hold. Port N
and any other code are refused BAD_ARGUMENT. The freed buffer goes to the front of the list of free ones
(assumption log 6). -/
def Obligations.SetLockSetIdentAndLineReset : Prop :=
  (∀ (s : State) (tag : Byte), s.Ready →
      (∀ g : Fin 8,
          exec (.setLock tag (BitVec.ofNat 8 g.val)) s =
            .next (({ s with groupLocks := s.groupLocks.set g true } : State).replied tag 0x0A
              .done 0 [])) ∧
        exec (.setLock tag 8) s =
          .next (({ s with configLock := true } : State).replied tag 0x0A .done 0 []) ∧
        (∀ l : Byte, 8 < l.toNat →
          exec (.setLock tag l) s = .next (s.replied tag 0x0A .badArgument 0 [])) ∧
        (∀ id : Word16, 4095 < id.toNat →
          exec (.setIdent tag id) s = .next (s.replied tag 0x08 .badArgument 0 [])) ∧
        ∀ sid : StreamId,
          ((∃ i e, s.entry i = some e ∧ e.keyPort = .N ∧ e.streamId = sid) →
              exec (.setIdent tag (sid.setWidth 16)) s =
                .next (s.replied tag 0x08 .duplicateKey 0 [])) ∧
            ((∀ i e, s.entry i = some e → ¬(e.keyPort = .N ∧ e.streamId = sid)) →
              exec (.setIdent tag (sid.setWidth 16)) s =
                .next { s.replied tag 0x08 .done 0 [] with mgmtId := sid })) ∧
  (∀ (s : State) (tag : Byte), s.Ready →
      exec (.sendLineReset tag 1) s =
          .next (({ s with
            free := s.portS.tx.bufs ++ s.free
            portS := { s.portS with tx := .brk } } : State).replied tag 0x0B .done 0 []) ∧
        ∀ p : Byte, p ≠ 1 →
          exec (.sendLineReset tag p) s = .next (s.replied tag 0x0B .badArgument 0 []))

/-! ### The bulk load and the immediate commands -/

/-- R167: BULK-LOAD at execution. A start or CONTINUE whose run would pass entry 255, or a start that
is neither an index nor CONTINUE, is refused BAD_ARGUMENT; otherwise the load phase begins, with the
context set and the gap timer running, and no response yet. -/
def Obligations.BulkLoadEntersItsLoadPhase : Prop :=
  ∀ (s : State) (tag : Byte) (start : Word16) (count : Byte), s.Ready →
    ∀ (from_ n : Nat),
      from_ = (if start = 0xFFFF then s.mgmt.nextIndex else start.toNat) →
      n = (if start = 0xFFFF then s.mgmt.reload
        else if count = 0 then 256 else count.toNat) →
      ((start ≠ 0xFFFF ∧ 255 < start.toNat) ∨ 256 < from_ + n →
          exec (.bulkLoad tag start count) s = .next (s.replied tag 0x20 .badArgument 0 [])) ∧
        ((start = 0xFFFF ∨ start.toNat ≤ 255) → from_ + n ≤ 256 →
          exec (.bulkLoad tag start count) s =
            .next { s with
              mgmt :=
                { s.mgmt with
                  executing := some (.loading ⟨s.mgmtId, tag, .bulkLoad start count⟩)
                  nextIndex := from_
                  remaining := n
                  reload := n
                  step := 0
                  gapTimer := true } })

/-- R154, R168, R170: a LOAD-DATA in the load phase that passes its checks writes the entry at the
next index, moves the context by one and is answered LOADED with the new step; the last one also ends
the load DONE and its result is recorded. With 8 responses queued it writes nothing and is counted
unanswered. R169, R171, R172: a refused LOAD-DATA, and the gap timer's expiry, end the bulk load: the
remaining count becomes 0, the gap timer stops and the result is recorded with the present step and
next index. The refused record writes nothing. R152, R153: at each end the BULK-LOAD's response, with
the end's status and step, is placed and a waiting request moves up and executes, or with 8 responses
queued it waits in the executing slot. A gap timer that does not run does not expire (assumption log
2). -/
def Obligations.LoadDataWritesTheNextEntry : Prop :=
  (∀ (s : State) (tag : Byte) (r : EntryRecord) (bulk : Request) (i : Byte),
      s.running = true → s.mgmt.executing = some (.loading bulk) →
      i = BitVec.ofNat 8 s.mgmt.nextIndex →
      (8 ≤ s.responses.length →
          exec (.loadData tag r) s =
            .next { s with mgmt := { s.mgmt with unanswered := satInc s.mgmt.unanswered } }) ∧
        (∀ e, s.responses.length < 8 → s.checkWrite i r = .ok e →
          (1 < s.mgmt.remaining →
              exec (.loadData tag r) s =
                .next (({ s.setEntry i (some e) with
                  mgmt :=
                    { s.mgmt with
                      step := s.mgmt.step + 1
                      remaining := s.mgmt.remaining - 1
                      nextIndex := s.mgmt.nextIndex + 1 } } : State).replied tag 0x21 .loaded
                  (s.mgmt.step + 1) [])) ∧
            (s.mgmt.remaining = 1 →
              exec (.loadData tag r) s =
                .next ((({ s.setEntry i (some e) with
                  mgmt :=
                    { s.mgmt with
                      step := s.mgmt.step + 1
                      remaining := 0
                      nextIndex := s.mgmt.nextIndex + 1
                      gapTimer := false
                      lastLoad :=
                        some ⟨.done, s.mgmt.step + 1, s.mgmt.nextIndex + 1⟩ } } : State).replied tag
                  0x21 .loaded (s.mgmt.step + 1) []).completed
                    (bulk.reply .done (s.mgmt.step + 1) [])))) ∧
        ∀ st, s.responses.length < 8 → s.checkWrite i r = .error st →
          exec (.loadData tag r) s =
            .next ((({ s with
              mgmt :=
                { s.mgmt with
                  remaining := 0
                  gapTimer := false
                  lastLoad := some ⟨st, s.mgmt.step, s.mgmt.nextIndex⟩ } } : State).replied tag 0x21
              st s.mgmt.step []).completed (bulk.reply st s.mgmt.step []))) ∧
  (∀ s : State, s.running = true →
      (∀ bulk, s.mgmt.executing = some (.loading bulk) → s.mgmt.gapTimer = true →
          exec .gapTimerExpiry s =
            .next (({ s with
              mgmt :=
                { s.mgmt with
                  remaining := 0
                  gapTimer := false
                  lastLoad := some ⟨.timeout, s.mgmt.step, s.mgmt.nextIndex⟩ } } :
              State).completed (bulk.reply .timeout s.mgmt.step []))) ∧
        (s.mgmt.gapTimer = false ∨ (∀ bulk, s.mgmt.executing ≠ some (.loading bulk)) →
          exec .gapTimerExpiry s = .next s))

/-- R158: ABORT ends a bulk load ABORTED at its step, leaves a built response as it waits, answers
the waiting request ABORTED, and is itself answered DONE, in that order. The waiting request does not
move up (assumption log 9). R153, R154: without a place the BULK-LOAD's response waits in the
executing slot, and the other two answers are not placed and are counted unanswered. -/
def Obligations.AbortAnswersTheSlots : Prop :=
  ∀ (s : State) (tag : Byte), s.running = true →
    (∀ bulk, s.mgmt.executing = some (.loading bulk) →
        exec (.abort tag) s =
          .next { s with
            responses :=
              s.placedAtOnce
                ([bulk.reply .aborted s.mgmt.step []] ++ s.abortedWaiting ++
                  [⟨s.mgmtId, tag, 0x30, .done, 0, []⟩])
            mgmt :=
              { s.mgmt with
                executing :=
                  if 8 ≤ s.responses.length then some (.built (bulk.reply .aborted s.mgmt.step []))
                  else none
                waiting := none
                remaining := 0
                gapTimer := false
                lastLoad := some ⟨.aborted, s.mgmt.step, s.mgmt.nextIndex⟩
                unanswered :=
                  Nat.iterate satInc
                    (s.abortedWaiting.length + 1 - (8 - (s.responses.length + 1)))
                    s.mgmt.unanswered } }) ∧
      ((∀ bulk, s.mgmt.executing ≠ some (.loading bulk)) →
        exec (.abort tag) s =
          .next { s with
            responses :=
              s.placedAtOnce (s.abortedWaiting ++ [⟨s.mgmtId, tag, 0x30, .done, 0, []⟩])
            mgmt :=
              { s.mgmt with
                waiting := none
                unanswered :=
                  Nat.iterate satInc (s.abortedWaiting.length + 1 - (8 - s.responses.length))
                    s.mgmt.unanswered } })

/-- R160, R202: RESET-WARM answers what the slots hold ABORTED and itself DONE, each at once or not at
all, and then takes the warm reset, which keeps the response queue. R164: ESCALATION at a running timer
sets the escalated flag, answers the slots in the same way, and takes the warm reset, which keeps the
flag. A stopped timer does not expire (assumption log 2). -/
def Obligations.ResetWarmAndEscalationAnswerThenReset : Prop :=
  (∀ (s : State) (tag : Byte), s.running = true →
      exec (.resetWarm tag) s =
        .next ({ s with
          responses :=
            s.placedAtOnce (s.abortedSlots ++ [⟨s.mgmtId, tag, 0x32, .done, 0, []⟩]) } :
          State).warmReset) ∧
    (∀ s : State, s.running = true →
      (s.mgmt.escTimer = none → exec .escalation s = .next s) ∧
        (s.mgmt.escTimer ≠ none →
          exec .escalation s =
            .next ({ s with
              responses := s.placedAtOnce s.abortedSlots
              mgmt := { s.mgmt with escalated := true } } : State).warmReset)) ∧
    ∀ s : State, s.warmReset.responses = s.responses ∧
      s.warmReset.mgmt.escalated = s.mgmt.escalated

/-- R11, R15, R17, R39, R72, R116, R134, R137, R149, R173, R197, R202: what the warm reset leaves. By
its lock an entry is freed, or kept with its counters 0, an active one re-armed; gates of unlocked
groups open; locks, the management stream id, the response queue and the supply and pins are kept;
every data queue, slot and cause is emptied and all 160 buffers are free; port counters are 0, port
settings, enables and escalation time kept under the configuration lock and default otherwise. The
mode is BYPASS, or with the freeze input asserted HALTED with cause FREEZE, FROZEN pending, and ALERT
1 placed if FROZEN is enabled. The order in which the full pool's buffers are listed is the model's
choice (assumption log 6). -/
def Obligations.WarmResetLeavesTheWarmValues : Prop :=
  ∀ s t : State, t = s.warmReset →
    t = { s with
          mode := if s.freezeLow then .halted .freeze else .bypass
          portN := t.portN
          portS := t.portS
          table := t.table
          gates := t.gates
          lapseList := []
          lapseOverflow := false
          free := allBuffers
          divert := []
          alertSlot :=
            if s.freezeLow && t.enables.frozen then
              some ⟨s.mgmtId, 1, 2, ⟨false, true, false, false, false, false⟩⟩
            else none
          mgmt :=
            ⟨none, none, 0, 0, 256, 0, none, false, false,
              if s.configLock then s.mgmt.escTime else 0, none, s.mgmt.escalated, 0,
              s.mgmt.linkEvents⟩
          causes := ⟨false, s.freezeLow, false, false⟩
          enables :=
            if s.configLock then s.enables else ⟨true, true, false, false, false, false⟩
          alertNumber := if s.freezeLow && t.enables.frozen then 1 else 0 } ∧
      (∀ i, s.entry i = none → t.entry i = none) ∧
      (∀ i e, s.entry i = some e →
        (s.groupLocks[e.group] = false → t.entry i = none) ∧
          (s.groupLocks[e.group] = true → e.state = .suspended →
            t.entry i = some { e with counters := ⟨0, 0, 0, 0, 0, 0, 0⟩ }) ∧
          (s.groupLocks[e.group] = true → e.state ≠ .suspended →
            t.entry i =
              some { e with
                state := .armed
                expSeq := none
                tracker := e.tracker.map Tracker.arm
                counters := ⟨0, 0, 0, 0, 0, 0, 0⟩ })) ∧
      (∀ g : Fin 8, t.gates[g] = if s.groupLocks[g] then s.gates[g] else .opened) ∧
      ∀ p, t.port p =
        { s.port p with
          receiver :=
            match (s.port p).receiver with
            | .fill _ => .skip
            | r => r
          counters := ⟨0, 0, 0, 0, 0, 0, 0, 0, 0, 0, 0, 0, 0⟩
          settings := if s.configLock then (s.port p).settings else ⟨.forward, 48, 16, 8, 50⟩
          pauseState := .opened
          resend := 0
          held := false
          holdTimer := none
          controlSlot := none
          cyclic := []
          acyclic := []
          tx := if (s.port p).tx.sendsTraffic then .spacing .abort else (s.port p).tx }

/-! ### Buffer contents -/

/-- R13, R14, R16: where each buffer is in exactly one place (R118), every buffer that a FRAME
descriptor, a divert descriptor or a transmission names holds an intact frame that was handed to the
classifier, and no buffer holds more than 247 bytes; every step keeps this. -/
def Obligations.StepKeepsIntactFramesInBuffers : Prop :=
  ∀ s t : State, s.BufferLaw → s.ContentLaw → step s = .next t → t.ContentLaw

end Slice0Statements
end

