-- ==== Sys2Proof/Laws/State.lean ====
section
/-! SUPPORT. One lemma per field per named update of the state: what the update leaves unchanged. The
lemmas are simp lemmas, so that no later proof unfolds a record update. -/

namespace Sys2Proof.Machine

/-! ### A change of one port -/
@[simp] theorem modPort_resetLow (s : State) (p : Port) (f : PortState → PortState) :
    (s.modPort p f).resetLow = s.resetLow := by
  cases p <;> rfl
@[simp] theorem modPort_powered (s : State) (p : Port) (f : PortState → PortState) :
    (s.modPort p f).powered = s.powered := by
  cases p <;> rfl
@[simp] theorem modPort_freezeLow (s : State) (p : Port) (f : PortState → PortState) :
    (s.modPort p f).freezeLow = s.freezeLow := by
  cases p <;> rfl
@[simp] theorem modPort_mode (s : State) (p : Port) (f : PortState → PortState) :
    (s.modPort p f).mode = s.mode := by
  cases p <;> rfl
@[simp] theorem modPort_table (s : State) (p : Port) (f : PortState → PortState) :
    (s.modPort p f).table = s.table := by
  cases p <;> rfl
@[simp] theorem modPort_gates (s : State) (p : Port) (f : PortState → PortState) :
    (s.modPort p f).gates = s.gates := by
  cases p <;> rfl
@[simp] theorem modPort_groupLocks (s : State) (p : Port) (f : PortState → PortState) :
    (s.modPort p f).groupLocks = s.groupLocks := by
  cases p <;> rfl
@[simp] theorem modPort_configLock (s : State) (p : Port) (f : PortState → PortState) :
    (s.modPort p f).configLock = s.configLock := by
  cases p <;> rfl
@[simp] theorem modPort_mgmtId (s : State) (p : Port) (f : PortState → PortState) :
    (s.modPort p f).mgmtId = s.mgmtId := by
  cases p <;> rfl
@[simp] theorem modPort_lapseList (s : State) (p : Port) (f : PortState → PortState) :
    (s.modPort p f).lapseList = s.lapseList := by
  cases p <;> rfl
@[simp] theorem modPort_lapseOverflow (s : State) (p : Port) (f : PortState → PortState) :
    (s.modPort p f).lapseOverflow = s.lapseOverflow := by
  cases p <;> rfl
@[simp] theorem modPort_free (s : State) (p : Port) (f : PortState → PortState) :
    (s.modPort p f).free = s.free := by
  cases p <;> rfl
@[simp] theorem modPort_contents (s : State) (p : Port) (f : PortState → PortState) :
    (s.modPort p f).contents = s.contents := by
  cases p <;> rfl
@[simp] theorem modPort_divert (s : State) (p : Port) (f : PortState → PortState) :
    (s.modPort p f).divert = s.divert := by
  cases p <;> rfl
@[simp] theorem modPort_responses (s : State) (p : Port) (f : PortState → PortState) :
    (s.modPort p f).responses = s.responses := by
  cases p <;> rfl
@[simp] theorem modPort_alertSlot (s : State) (p : Port) (f : PortState → PortState) :
    (s.modPort p f).alertSlot = s.alertSlot := by
  cases p <;> rfl
@[simp] theorem modPort_mgmt (s : State) (p : Port) (f : PortState → PortState) :
    (s.modPort p f).mgmt = s.mgmt := by
  cases p <;> rfl
@[simp] theorem modPort_causes (s : State) (p : Port) (f : PortState → PortState) :
    (s.modPort p f).causes = s.causes := by
  cases p <;> rfl
@[simp] theorem modPort_enables (s : State) (p : Port) (f : PortState → PortState) :
    (s.modPort p f).enables = s.enables := by
  cases p <;> rfl
@[simp] theorem modPort_alertNumber (s : State) (p : Port) (f : PortState → PortState) :
    (s.modPort p f).alertNumber = s.alertNumber := by
  cases p <;> rfl
@[simp] theorem modPort_pending (s : State) (p : Port) (f : PortState → PortState) :
    (s.modPort p f).pending = s.pending := by
  cases p <;> rfl
@[simp] theorem modPort_running (s : State) (p : Port) (f : PortState → PortState) :
    (s.modPort p f).running = s.running := by
  simp [State.running]
@[simp] theorem modPort_entry (s : State) (p : Port) (f : PortState → PortState) (i' : Byte) :
    (s.modPort p f).entry i' = s.entry i' := by
  simp [State.entry]
@[simp] theorem modPort_gateOf (s : State) (p : Port) (f : PortState → PortState) (e' : Entry) :
    (s.modPort p f).gateOf e' = s.gateOf e' := by
  simp [State.gateOf]
@[simp] theorem modPort_lockedEntry (s : State) (p : Port) (f : PortState → PortState) (e' : Entry) :
    (s.modPort p f).lockedEntry e' = s.lockedEntry e' := by
  simp [State.lockedEntry]
@[simp] theorem modPort_hasPlace (s : State) (p : Port) (f : PortState → PortState) :
    (s.modPort p f).hasPlace = s.hasPlace := by
  simp [State.hasPlace]
@[simp] theorem modPort_pendingCauses (s : State) (p : Port) (f : PortState → PortState) :
    (s.modPort p f).pendingCauses = s.pendingCauses := by
  simp [State.pendingCauses]

/-- The port a change names takes it. -/
@[simp] theorem modPort_port_self (s : State) (p : Port) (f : PortState → PortState) :
    (s.modPort p f).port p = f (s.port p) := by
  cases p <;> rfl

/-- The other port keeps its state. -/
@[simp] theorem modPort_port_opp (s : State) (p : Port) (f : PortState → PortState) :
    (s.modPort p f).port p.opp = s.port p.opp := by
  cases p <;> rfl

/-- A change of the opposite port leaves the port itself. -/
@[simp] theorem modPort_opp_port (s : State) (p : Port) (f : PortState → PortState) :
    (s.modPort p.opp f).port p = s.port p := by
  cases p <;> rfl

/-- A port that a change does not name keeps its state. -/
theorem modPort_port_ne (s : State) (p q : Port) (f : PortState → PortState) (h : q ≠ p) :
    (s.modPort p f).port q = s.port q := by
  cases p <;> cases q <;> first | rfl | exact absurd rfl h

/-- Two changes of one port are one. -/
@[simp] theorem modPort_modPort (s : State) (p : Port) (f g : PortState → PortState) :
    (s.modPort p f).modPort p g = s.modPort p fun ps => g (f ps) := by
  cases p <;> rfl

/-- The opposite of the opposite port is the port. -/
@[simp] theorem opp_opp (p : Port) : p.opp.opp = p := by cases p <;> rfl

/-- A port is not its opposite. -/
@[simp] theorem opp_ne (p : Port) : p.opp ≠ p := by cases p <;> decide

/-! ### A port counter raised -/
@[simp] theorem count_resetLow (s : State) (p : Port) (c : PortCounter) :
    (s.count p c).resetLow = s.resetLow := by
  cases p <;> rfl
@[simp] theorem count_powered (s : State) (p : Port) (c : PortCounter) :
    (s.count p c).powered = s.powered := by
  cases p <;> rfl
@[simp] theorem count_freezeLow (s : State) (p : Port) (c : PortCounter) :
    (s.count p c).freezeLow = s.freezeLow := by
  cases p <;> rfl
@[simp] theorem count_mode (s : State) (p : Port) (c : PortCounter) :
    (s.count p c).mode = s.mode := by
  cases p <;> rfl
@[simp] theorem count_table (s : State) (p : Port) (c : PortCounter) :
    (s.count p c).table = s.table := by
  cases p <;> rfl
@[simp] theorem count_gates (s : State) (p : Port) (c : PortCounter) :
    (s.count p c).gates = s.gates := by
  cases p <;> rfl
@[simp] theorem count_groupLocks (s : State) (p : Port) (c : PortCounter) :
    (s.count p c).groupLocks = s.groupLocks := by
  cases p <;> rfl
@[simp] theorem count_configLock (s : State) (p : Port) (c : PortCounter) :
    (s.count p c).configLock = s.configLock := by
  cases p <;> rfl
@[simp] theorem count_mgmtId (s : State) (p : Port) (c : PortCounter) :
    (s.count p c).mgmtId = s.mgmtId := by
  cases p <;> rfl
@[simp] theorem count_lapseList (s : State) (p : Port) (c : PortCounter) :
    (s.count p c).lapseList = s.lapseList := by
  cases p <;> rfl
@[simp] theorem count_lapseOverflow (s : State) (p : Port) (c : PortCounter) :
    (s.count p c).lapseOverflow = s.lapseOverflow := by
  cases p <;> rfl
@[simp] theorem count_free (s : State) (p : Port) (c : PortCounter) :
    (s.count p c).free = s.free := by
  cases p <;> rfl
@[simp] theorem count_contents (s : State) (p : Port) (c : PortCounter) :
    (s.count p c).contents = s.contents := by
  cases p <;> rfl
@[simp] theorem count_divert (s : State) (p : Port) (c : PortCounter) :
    (s.count p c).divert = s.divert := by
  cases p <;> rfl
@[simp] theorem count_responses (s : State) (p : Port) (c : PortCounter) :
    (s.count p c).responses = s.responses := by
  cases p <;> rfl
@[simp] theorem count_alertSlot (s : State) (p : Port) (c : PortCounter) :
    (s.count p c).alertSlot = s.alertSlot := by
  cases p <;> rfl
@[simp] theorem count_mgmt (s : State) (p : Port) (c : PortCounter) :
    (s.count p c).mgmt = s.mgmt := by
  cases p <;> rfl
@[simp] theorem count_causes (s : State) (p : Port) (c : PortCounter) :
    (s.count p c).causes = s.causes := by
  cases p <;> rfl
@[simp] theorem count_enables (s : State) (p : Port) (c : PortCounter) :
    (s.count p c).enables = s.enables := by
  cases p <;> rfl
@[simp] theorem count_alertNumber (s : State) (p : Port) (c : PortCounter) :
    (s.count p c).alertNumber = s.alertNumber := by
  cases p <;> rfl
@[simp] theorem count_pending (s : State) (p : Port) (c : PortCounter) :
    (s.count p c).pending = s.pending := by
  cases p <;> rfl
@[simp] theorem count_running (s : State) (p : Port) (c : PortCounter) :
    (s.count p c).running = s.running := by
  simp [State.running]
@[simp] theorem count_entry (s : State) (p : Port) (c : PortCounter) (i' : Byte) :
    (s.count p c).entry i' = s.entry i' := by
  simp [State.entry]
@[simp] theorem count_gateOf (s : State) (p : Port) (c : PortCounter) (e' : Entry) :
    (s.count p c).gateOf e' = s.gateOf e' := by
  simp [State.gateOf]
@[simp] theorem count_lockedEntry (s : State) (p : Port) (c : PortCounter) (e' : Entry) :
    (s.count p c).lockedEntry e' = s.lockedEntry e' := by
  simp [State.lockedEntry]
@[simp] theorem count_hasPlace (s : State) (p : Port) (c : PortCounter) :
    (s.count p c).hasPlace = s.hasPlace := by
  simp [State.hasPlace]
@[simp] theorem count_pendingCauses (s : State) (p : Port) (c : PortCounter) :
    (s.count p c).pendingCauses = s.pendingCauses := by
  simp [State.pendingCauses]

/-! ### A buffer freed -/
@[simp] theorem release_resetLow (s : State) (b : BufId) :
    (s.release b).resetLow = s.resetLow := rfl
@[simp] theorem release_powered (s : State) (b : BufId) :
    (s.release b).powered = s.powered := rfl
@[simp] theorem release_freezeLow (s : State) (b : BufId) :
    (s.release b).freezeLow = s.freezeLow := rfl
@[simp] theorem release_mode (s : State) (b : BufId) :
    (s.release b).mode = s.mode := rfl
@[simp] theorem release_portN (s : State) (b : BufId) :
    (s.release b).portN = s.portN := rfl
@[simp] theorem release_portS (s : State) (b : BufId) :
    (s.release b).portS = s.portS := rfl
@[simp] theorem release_table (s : State) (b : BufId) :
    (s.release b).table = s.table := rfl
@[simp] theorem release_gates (s : State) (b : BufId) :
    (s.release b).gates = s.gates := rfl
@[simp] theorem release_groupLocks (s : State) (b : BufId) :
    (s.release b).groupLocks = s.groupLocks := rfl
@[simp] theorem release_configLock (s : State) (b : BufId) :
    (s.release b).configLock = s.configLock := rfl
@[simp] theorem release_mgmtId (s : State) (b : BufId) :
    (s.release b).mgmtId = s.mgmtId := rfl
@[simp] theorem release_lapseList (s : State) (b : BufId) :
    (s.release b).lapseList = s.lapseList := rfl
@[simp] theorem release_lapseOverflow (s : State) (b : BufId) :
    (s.release b).lapseOverflow = s.lapseOverflow := rfl
@[simp] theorem release_contents (s : State) (b : BufId) :
    (s.release b).contents = s.contents := rfl
@[simp] theorem release_divert (s : State) (b : BufId) :
    (s.release b).divert = s.divert := rfl
@[simp] theorem release_responses (s : State) (b : BufId) :
    (s.release b).responses = s.responses := rfl
@[simp] theorem release_alertSlot (s : State) (b : BufId) :
    (s.release b).alertSlot = s.alertSlot := rfl
@[simp] theorem release_mgmt (s : State) (b : BufId) :
    (s.release b).mgmt = s.mgmt := rfl
@[simp] theorem release_causes (s : State) (b : BufId) :
    (s.release b).causes = s.causes := rfl
@[simp] theorem release_enables (s : State) (b : BufId) :
    (s.release b).enables = s.enables := rfl
@[simp] theorem release_alertNumber (s : State) (b : BufId) :
    (s.release b).alertNumber = s.alertNumber := rfl
@[simp] theorem release_pending (s : State) (b : BufId) :
    (s.release b).pending = s.pending := rfl
@[simp] theorem release_running (s : State) (b : BufId) :
    (s.release b).running = s.running := rfl
@[simp] theorem release_entry (s : State) (b : BufId) (i' : Byte) :
    (s.release b).entry i' = s.entry i' := rfl
@[simp] theorem release_gateOf (s : State) (b : BufId) (e' : Entry) :
    (s.release b).gateOf e' = s.gateOf e' := rfl
@[simp] theorem release_lockedEntry (s : State) (b : BufId) (e' : Entry) :
    (s.release b).lockedEntry e' = s.lockedEntry e' := rfl
@[simp] theorem release_hasPlace (s : State) (b : BufId) :
    (s.release b).hasPlace = s.hasPlace := rfl
@[simp] theorem release_port (s : State) (b : BufId) (p' : Port) :
    (s.release b).port p' = s.port p' := by
  cases p' <;> simp [State.port]
@[simp] theorem release_pendingCauses (s : State) (b : BufId) :
    (s.release b).pendingCauses = s.pendingCauses := rfl

/-! ### Several buffers freed -/
@[simp] theorem releaseAll_resetLow (s : State) (bs : List BufId) :
    (s.releaseAll bs).resetLow = s.resetLow := rfl
@[simp] theorem releaseAll_powered (s : State) (bs : List BufId) :
    (s.releaseAll bs).powered = s.powered := rfl
@[simp] theorem releaseAll_freezeLow (s : State) (bs : List BufId) :
    (s.releaseAll bs).freezeLow = s.freezeLow := rfl
@[simp] theorem releaseAll_mode (s : State) (bs : List BufId) :
    (s.releaseAll bs).mode = s.mode := rfl
@[simp] theorem releaseAll_portN (s : State) (bs : List BufId) :
    (s.releaseAll bs).portN = s.portN := rfl
@[simp] theorem releaseAll_portS (s : State) (bs : List BufId) :
    (s.releaseAll bs).portS = s.portS := rfl
@[simp] theorem releaseAll_table (s : State) (bs : List BufId) :
    (s.releaseAll bs).table = s.table := rfl
@[simp] theorem releaseAll_gates (s : State) (bs : List BufId) :
    (s.releaseAll bs).gates = s.gates := rfl
@[simp] theorem releaseAll_groupLocks (s : State) (bs : List BufId) :
    (s.releaseAll bs).groupLocks = s.groupLocks := rfl
@[simp] theorem releaseAll_configLock (s : State) (bs : List BufId) :
    (s.releaseAll bs).configLock = s.configLock := rfl
@[simp] theorem releaseAll_mgmtId (s : State) (bs : List BufId) :
    (s.releaseAll bs).mgmtId = s.mgmtId := rfl
@[simp] theorem releaseAll_lapseList (s : State) (bs : List BufId) :
    (s.releaseAll bs).lapseList = s.lapseList := rfl
@[simp] theorem releaseAll_lapseOverflow (s : State) (bs : List BufId) :
    (s.releaseAll bs).lapseOverflow = s.lapseOverflow := rfl
@[simp] theorem releaseAll_contents (s : State) (bs : List BufId) :
    (s.releaseAll bs).contents = s.contents := rfl
@[simp] theorem releaseAll_divert (s : State) (bs : List BufId) :
    (s.releaseAll bs).divert = s.divert := rfl
@[simp] theorem releaseAll_responses (s : State) (bs : List BufId) :
    (s.releaseAll bs).responses = s.responses := rfl
@[simp] theorem releaseAll_alertSlot (s : State) (bs : List BufId) :
    (s.releaseAll bs).alertSlot = s.alertSlot := rfl
@[simp] theorem releaseAll_mgmt (s : State) (bs : List BufId) :
    (s.releaseAll bs).mgmt = s.mgmt := rfl
@[simp] theorem releaseAll_causes (s : State) (bs : List BufId) :
    (s.releaseAll bs).causes = s.causes := rfl
@[simp] theorem releaseAll_enables (s : State) (bs : List BufId) :
    (s.releaseAll bs).enables = s.enables := rfl
@[simp] theorem releaseAll_alertNumber (s : State) (bs : List BufId) :
    (s.releaseAll bs).alertNumber = s.alertNumber := rfl
@[simp] theorem releaseAll_pending (s : State) (bs : List BufId) :
    (s.releaseAll bs).pending = s.pending := rfl
@[simp] theorem releaseAll_running (s : State) (bs : List BufId) :
    (s.releaseAll bs).running = s.running := rfl
@[simp] theorem releaseAll_entry (s : State) (bs : List BufId) (i' : Byte) :
    (s.releaseAll bs).entry i' = s.entry i' := rfl
@[simp] theorem releaseAll_gateOf (s : State) (bs : List BufId) (e' : Entry) :
    (s.releaseAll bs).gateOf e' = s.gateOf e' := rfl
@[simp] theorem releaseAll_lockedEntry (s : State) (bs : List BufId) (e' : Entry) :
    (s.releaseAll bs).lockedEntry e' = s.lockedEntry e' := rfl
@[simp] theorem releaseAll_hasPlace (s : State) (bs : List BufId) :
    (s.releaseAll bs).hasPlace = s.hasPlace := rfl
@[simp] theorem releaseAll_port (s : State) (bs : List BufId) (p' : Port) :
    (s.releaseAll bs).port p' = s.port p' := by
  cases p' <;> simp [State.port]
@[simp] theorem releaseAll_pendingCauses (s : State) (bs : List BufId) :
    (s.releaseAll bs).pendingCauses = s.pendingCauses := rfl

/-! ### A buffer's bytes replaced -/
@[simp] theorem store_resetLow (s : State) (b : BufId) (bytes : List Byte) :
    (s.store b bytes).resetLow = s.resetLow := rfl
@[simp] theorem store_powered (s : State) (b : BufId) (bytes : List Byte) :
    (s.store b bytes).powered = s.powered := rfl
@[simp] theorem store_freezeLow (s : State) (b : BufId) (bytes : List Byte) :
    (s.store b bytes).freezeLow = s.freezeLow := rfl
@[simp] theorem store_mode (s : State) (b : BufId) (bytes : List Byte) :
    (s.store b bytes).mode = s.mode := rfl
@[simp] theorem store_portN (s : State) (b : BufId) (bytes : List Byte) :
    (s.store b bytes).portN = s.portN := rfl
@[simp] theorem store_portS (s : State) (b : BufId) (bytes : List Byte) :
    (s.store b bytes).portS = s.portS := rfl
@[simp] theorem store_table (s : State) (b : BufId) (bytes : List Byte) :
    (s.store b bytes).table = s.table := rfl
@[simp] theorem store_gates (s : State) (b : BufId) (bytes : List Byte) :
    (s.store b bytes).gates = s.gates := rfl
@[simp] theorem store_groupLocks (s : State) (b : BufId) (bytes : List Byte) :
    (s.store b bytes).groupLocks = s.groupLocks := rfl
@[simp] theorem store_configLock (s : State) (b : BufId) (bytes : List Byte) :
    (s.store b bytes).configLock = s.configLock := rfl
@[simp] theorem store_mgmtId (s : State) (b : BufId) (bytes : List Byte) :
    (s.store b bytes).mgmtId = s.mgmtId := rfl
@[simp] theorem store_lapseList (s : State) (b : BufId) (bytes : List Byte) :
    (s.store b bytes).lapseList = s.lapseList := rfl
@[simp] theorem store_lapseOverflow (s : State) (b : BufId) (bytes : List Byte) :
    (s.store b bytes).lapseOverflow = s.lapseOverflow := rfl
@[simp] theorem store_free (s : State) (b : BufId) (bytes : List Byte) :
    (s.store b bytes).free = s.free := rfl
@[simp] theorem store_divert (s : State) (b : BufId) (bytes : List Byte) :
    (s.store b bytes).divert = s.divert := rfl
@[simp] theorem store_responses (s : State) (b : BufId) (bytes : List Byte) :
    (s.store b bytes).responses = s.responses := rfl
@[simp] theorem store_alertSlot (s : State) (b : BufId) (bytes : List Byte) :
    (s.store b bytes).alertSlot = s.alertSlot := rfl
@[simp] theorem store_mgmt (s : State) (b : BufId) (bytes : List Byte) :
    (s.store b bytes).mgmt = s.mgmt := rfl
@[simp] theorem store_causes (s : State) (b : BufId) (bytes : List Byte) :
    (s.store b bytes).causes = s.causes := rfl
@[simp] theorem store_enables (s : State) (b : BufId) (bytes : List Byte) :
    (s.store b bytes).enables = s.enables := rfl
@[simp] theorem store_alertNumber (s : State) (b : BufId) (bytes : List Byte) :
    (s.store b bytes).alertNumber = s.alertNumber := rfl
@[simp] theorem store_pending (s : State) (b : BufId) (bytes : List Byte) :
    (s.store b bytes).pending = s.pending := rfl
@[simp] theorem store_running (s : State) (b : BufId) (bytes : List Byte) :
    (s.store b bytes).running = s.running := rfl
@[simp] theorem store_entry (s : State) (b : BufId) (bytes : List Byte) (i' : Byte) :
    (s.store b bytes).entry i' = s.entry i' := rfl
@[simp] theorem store_gateOf (s : State) (b : BufId) (bytes : List Byte) (e' : Entry) :
    (s.store b bytes).gateOf e' = s.gateOf e' := rfl
@[simp] theorem store_lockedEntry (s : State) (b : BufId) (bytes : List Byte) (e' : Entry) :
    (s.store b bytes).lockedEntry e' = s.lockedEntry e' := rfl
@[simp] theorem store_hasPlace (s : State) (b : BufId) (bytes : List Byte) :
    (s.store b bytes).hasPlace = s.hasPlace := rfl
@[simp] theorem store_port (s : State) (b : BufId) (bytes : List Byte) (p' : Port) :
    (s.store b bytes).port p' = s.port p' := by
  cases p' <;> simp [State.port]
@[simp] theorem store_pendingCauses (s : State) (b : BufId) (bytes : List Byte) :
    (s.store b bytes).pendingCauses = s.pendingCauses := rfl

/-! ### An entry replaced -/
@[simp] theorem setEntry_resetLow (s : State) (i : Byte) (e : Option Entry) :
    (s.setEntry i e).resetLow = s.resetLow := rfl
@[simp] theorem setEntry_powered (s : State) (i : Byte) (e : Option Entry) :
    (s.setEntry i e).powered = s.powered := rfl
@[simp] theorem setEntry_freezeLow (s : State) (i : Byte) (e : Option Entry) :
    (s.setEntry i e).freezeLow = s.freezeLow := rfl
@[simp] theorem setEntry_mode (s : State) (i : Byte) (e : Option Entry) :
    (s.setEntry i e).mode = s.mode := rfl
@[simp] theorem setEntry_portN (s : State) (i : Byte) (e : Option Entry) :
    (s.setEntry i e).portN = s.portN := rfl
@[simp] theorem setEntry_portS (s : State) (i : Byte) (e : Option Entry) :
    (s.setEntry i e).portS = s.portS := rfl
@[simp] theorem setEntry_gates (s : State) (i : Byte) (e : Option Entry) :
    (s.setEntry i e).gates = s.gates := rfl
@[simp] theorem setEntry_groupLocks (s : State) (i : Byte) (e : Option Entry) :
    (s.setEntry i e).groupLocks = s.groupLocks := rfl
@[simp] theorem setEntry_configLock (s : State) (i : Byte) (e : Option Entry) :
    (s.setEntry i e).configLock = s.configLock := rfl
@[simp] theorem setEntry_mgmtId (s : State) (i : Byte) (e : Option Entry) :
    (s.setEntry i e).mgmtId = s.mgmtId := rfl
@[simp] theorem setEntry_lapseList (s : State) (i : Byte) (e : Option Entry) :
    (s.setEntry i e).lapseList = s.lapseList := rfl
@[simp] theorem setEntry_lapseOverflow (s : State) (i : Byte) (e : Option Entry) :
    (s.setEntry i e).lapseOverflow = s.lapseOverflow := rfl
@[simp] theorem setEntry_free (s : State) (i : Byte) (e : Option Entry) :
    (s.setEntry i e).free = s.free := rfl
@[simp] theorem setEntry_contents (s : State) (i : Byte) (e : Option Entry) :
    (s.setEntry i e).contents = s.contents := rfl
@[simp] theorem setEntry_divert (s : State) (i : Byte) (e : Option Entry) :
    (s.setEntry i e).divert = s.divert := rfl
@[simp] theorem setEntry_responses (s : State) (i : Byte) (e : Option Entry) :
    (s.setEntry i e).responses = s.responses := rfl
@[simp] theorem setEntry_alertSlot (s : State) (i : Byte) (e : Option Entry) :
    (s.setEntry i e).alertSlot = s.alertSlot := rfl
@[simp] theorem setEntry_mgmt (s : State) (i : Byte) (e : Option Entry) :
    (s.setEntry i e).mgmt = s.mgmt := rfl
@[simp] theorem setEntry_causes (s : State) (i : Byte) (e : Option Entry) :
    (s.setEntry i e).causes = s.causes := rfl
@[simp] theorem setEntry_enables (s : State) (i : Byte) (e : Option Entry) :
    (s.setEntry i e).enables = s.enables := rfl
@[simp] theorem setEntry_alertNumber (s : State) (i : Byte) (e : Option Entry) :
    (s.setEntry i e).alertNumber = s.alertNumber := rfl
@[simp] theorem setEntry_pending (s : State) (i : Byte) (e : Option Entry) :
    (s.setEntry i e).pending = s.pending := rfl
@[simp] theorem setEntry_running (s : State) (i : Byte) (e : Option Entry) :
    (s.setEntry i e).running = s.running := rfl
@[simp] theorem setEntry_gateOf (s : State) (i : Byte) (e : Option Entry) (e' : Entry) :
    (s.setEntry i e).gateOf e' = s.gateOf e' := rfl
@[simp] theorem setEntry_lockedEntry (s : State) (i : Byte) (e : Option Entry) (e' : Entry) :
    (s.setEntry i e).lockedEntry e' = s.lockedEntry e' := rfl
@[simp] theorem setEntry_hasPlace (s : State) (i : Byte) (e : Option Entry) :
    (s.setEntry i e).hasPlace = s.hasPlace := rfl
@[simp] theorem setEntry_port (s : State) (i : Byte) (e : Option Entry) (p' : Port) :
    (s.setEntry i e).port p' = s.port p' := by
  cases p' <;> simp [State.port]
@[simp] theorem setEntry_pendingCauses (s : State) (i : Byte) (e : Option Entry) :
    (s.setEntry i e).pendingCauses = s.pendingCauses := rfl

/-! ### An entry changed -/
@[simp] theorem modEntry_resetLow (s : State) (i : Byte) (f : Entry → Entry) :
    (s.modEntry i f).resetLow = s.resetLow := rfl
@[simp] theorem modEntry_powered (s : State) (i : Byte) (f : Entry → Entry) :
    (s.modEntry i f).powered = s.powered := rfl
@[simp] theorem modEntry_freezeLow (s : State) (i : Byte) (f : Entry → Entry) :
    (s.modEntry i f).freezeLow = s.freezeLow := rfl
@[simp] theorem modEntry_mode (s : State) (i : Byte) (f : Entry → Entry) :
    (s.modEntry i f).mode = s.mode := rfl
@[simp] theorem modEntry_portN (s : State) (i : Byte) (f : Entry → Entry) :
    (s.modEntry i f).portN = s.portN := rfl
@[simp] theorem modEntry_portS (s : State) (i : Byte) (f : Entry → Entry) :
    (s.modEntry i f).portS = s.portS := rfl
@[simp] theorem modEntry_gates (s : State) (i : Byte) (f : Entry → Entry) :
    (s.modEntry i f).gates = s.gates := rfl
@[simp] theorem modEntry_groupLocks (s : State) (i : Byte) (f : Entry → Entry) :
    (s.modEntry i f).groupLocks = s.groupLocks := rfl
@[simp] theorem modEntry_configLock (s : State) (i : Byte) (f : Entry → Entry) :
    (s.modEntry i f).configLock = s.configLock := rfl
@[simp] theorem modEntry_mgmtId (s : State) (i : Byte) (f : Entry → Entry) :
    (s.modEntry i f).mgmtId = s.mgmtId := rfl
@[simp] theorem modEntry_lapseList (s : State) (i : Byte) (f : Entry → Entry) :
    (s.modEntry i f).lapseList = s.lapseList := rfl
@[simp] theorem modEntry_lapseOverflow (s : State) (i : Byte) (f : Entry → Entry) :
    (s.modEntry i f).lapseOverflow = s.lapseOverflow := rfl
@[simp] theorem modEntry_free (s : State) (i : Byte) (f : Entry → Entry) :
    (s.modEntry i f).free = s.free := rfl
@[simp] theorem modEntry_contents (s : State) (i : Byte) (f : Entry → Entry) :
    (s.modEntry i f).contents = s.contents := rfl
@[simp] theorem modEntry_divert (s : State) (i : Byte) (f : Entry → Entry) :
    (s.modEntry i f).divert = s.divert := rfl
@[simp] theorem modEntry_responses (s : State) (i : Byte) (f : Entry → Entry) :
    (s.modEntry i f).responses = s.responses := rfl
@[simp] theorem modEntry_alertSlot (s : State) (i : Byte) (f : Entry → Entry) :
    (s.modEntry i f).alertSlot = s.alertSlot := rfl
@[simp] theorem modEntry_mgmt (s : State) (i : Byte) (f : Entry → Entry) :
    (s.modEntry i f).mgmt = s.mgmt := rfl
@[simp] theorem modEntry_causes (s : State) (i : Byte) (f : Entry → Entry) :
    (s.modEntry i f).causes = s.causes := rfl
@[simp] theorem modEntry_enables (s : State) (i : Byte) (f : Entry → Entry) :
    (s.modEntry i f).enables = s.enables := rfl
@[simp] theorem modEntry_alertNumber (s : State) (i : Byte) (f : Entry → Entry) :
    (s.modEntry i f).alertNumber = s.alertNumber := rfl
@[simp] theorem modEntry_pending (s : State) (i : Byte) (f : Entry → Entry) :
    (s.modEntry i f).pending = s.pending := rfl
@[simp] theorem modEntry_running (s : State) (i : Byte) (f : Entry → Entry) :
    (s.modEntry i f).running = s.running := rfl
@[simp] theorem modEntry_gateOf (s : State) (i : Byte) (f : Entry → Entry) (e' : Entry) :
    (s.modEntry i f).gateOf e' = s.gateOf e' := rfl
@[simp] theorem modEntry_lockedEntry (s : State) (i : Byte) (f : Entry → Entry) (e' : Entry) :
    (s.modEntry i f).lockedEntry e' = s.lockedEntry e' := rfl
@[simp] theorem modEntry_hasPlace (s : State) (i : Byte) (f : Entry → Entry) :
    (s.modEntry i f).hasPlace = s.hasPlace := rfl
@[simp] theorem modEntry_port (s : State) (i : Byte) (f : Entry → Entry) (p' : Port) :
    (s.modEntry i f).port p' = s.port p' := by
  cases p' <;> simp [State.port]
@[simp] theorem modEntry_pendingCauses (s : State) (i : Byte) (f : Entry → Entry) :
    (s.modEntry i f).pendingCauses = s.pendingCauses := rfl

/-! ### Entries moved to ARMED -/
@[simp] theorem disarm_resetLow (s : State) (pick : Entry → Bool) :
    (s.disarm pick).resetLow = s.resetLow := rfl
@[simp] theorem disarm_powered (s : State) (pick : Entry → Bool) :
    (s.disarm pick).powered = s.powered := rfl
@[simp] theorem disarm_freezeLow (s : State) (pick : Entry → Bool) :
    (s.disarm pick).freezeLow = s.freezeLow := rfl
@[simp] theorem disarm_mode (s : State) (pick : Entry → Bool) :
    (s.disarm pick).mode = s.mode := rfl
@[simp] theorem disarm_portN (s : State) (pick : Entry → Bool) :
    (s.disarm pick).portN = s.portN := rfl
@[simp] theorem disarm_portS (s : State) (pick : Entry → Bool) :
    (s.disarm pick).portS = s.portS := rfl
@[simp] theorem disarm_gates (s : State) (pick : Entry → Bool) :
    (s.disarm pick).gates = s.gates := rfl
@[simp] theorem disarm_groupLocks (s : State) (pick : Entry → Bool) :
    (s.disarm pick).groupLocks = s.groupLocks := rfl
@[simp] theorem disarm_configLock (s : State) (pick : Entry → Bool) :
    (s.disarm pick).configLock = s.configLock := rfl
@[simp] theorem disarm_mgmtId (s : State) (pick : Entry → Bool) :
    (s.disarm pick).mgmtId = s.mgmtId := rfl
@[simp] theorem disarm_lapseList (s : State) (pick : Entry → Bool) :
    (s.disarm pick).lapseList = s.lapseList := rfl
@[simp] theorem disarm_lapseOverflow (s : State) (pick : Entry → Bool) :
    (s.disarm pick).lapseOverflow = s.lapseOverflow := rfl
@[simp] theorem disarm_free (s : State) (pick : Entry → Bool) :
    (s.disarm pick).free = s.free := rfl
@[simp] theorem disarm_contents (s : State) (pick : Entry → Bool) :
    (s.disarm pick).contents = s.contents := rfl
@[simp] theorem disarm_divert (s : State) (pick : Entry → Bool) :
    (s.disarm pick).divert = s.divert := rfl
@[simp] theorem disarm_responses (s : State) (pick : Entry → Bool) :
    (s.disarm pick).responses = s.responses := rfl
@[simp] theorem disarm_alertSlot (s : State) (pick : Entry → Bool) :
    (s.disarm pick).alertSlot = s.alertSlot := rfl
@[simp] theorem disarm_mgmt (s : State) (pick : Entry → Bool) :
    (s.disarm pick).mgmt = s.mgmt := rfl
@[simp] theorem disarm_causes (s : State) (pick : Entry → Bool) :
    (s.disarm pick).causes = s.causes := rfl
@[simp] theorem disarm_enables (s : State) (pick : Entry → Bool) :
    (s.disarm pick).enables = s.enables := rfl
@[simp] theorem disarm_alertNumber (s : State) (pick : Entry → Bool) :
    (s.disarm pick).alertNumber = s.alertNumber := rfl
@[simp] theorem disarm_pending (s : State) (pick : Entry → Bool) :
    (s.disarm pick).pending = s.pending := rfl
@[simp] theorem disarm_running (s : State) (pick : Entry → Bool) :
    (s.disarm pick).running = s.running := rfl
@[simp] theorem disarm_gateOf (s : State) (pick : Entry → Bool) (e' : Entry) :
    (s.disarm pick).gateOf e' = s.gateOf e' := rfl
@[simp] theorem disarm_lockedEntry (s : State) (pick : Entry → Bool) (e' : Entry) :
    (s.disarm pick).lockedEntry e' = s.lockedEntry e' := rfl
@[simp] theorem disarm_hasPlace (s : State) (pick : Entry → Bool) :
    (s.disarm pick).hasPlace = s.hasPlace := rfl
@[simp] theorem disarm_port (s : State) (pick : Entry → Bool) (p' : Port) :
    (s.disarm pick).port p' = s.port p' := by
  cases p' <;> simp [State.port]
@[simp] theorem disarm_pendingCauses (s : State) (pick : Entry → Bool) :
    (s.disarm pick).pendingCauses = s.pendingCauses := rfl

/-! ### An index removed from the lapse list -/
@[simp] theorem unlist_resetLow (s : State) (i : Byte) :
    (s.unlist i).resetLow = s.resetLow := rfl
@[simp] theorem unlist_powered (s : State) (i : Byte) :
    (s.unlist i).powered = s.powered := rfl
@[simp] theorem unlist_freezeLow (s : State) (i : Byte) :
    (s.unlist i).freezeLow = s.freezeLow := rfl
@[simp] theorem unlist_mode (s : State) (i : Byte) :
    (s.unlist i).mode = s.mode := rfl
@[simp] theorem unlist_portN (s : State) (i : Byte) :
    (s.unlist i).portN = s.portN := rfl
@[simp] theorem unlist_portS (s : State) (i : Byte) :
    (s.unlist i).portS = s.portS := rfl
@[simp] theorem unlist_table (s : State) (i : Byte) :
    (s.unlist i).table = s.table := rfl
@[simp] theorem unlist_gates (s : State) (i : Byte) :
    (s.unlist i).gates = s.gates := rfl
@[simp] theorem unlist_groupLocks (s : State) (i : Byte) :
    (s.unlist i).groupLocks = s.groupLocks := rfl
@[simp] theorem unlist_configLock (s : State) (i : Byte) :
    (s.unlist i).configLock = s.configLock := rfl
@[simp] theorem unlist_mgmtId (s : State) (i : Byte) :
    (s.unlist i).mgmtId = s.mgmtId := rfl
@[simp] theorem unlist_lapseOverflow (s : State) (i : Byte) :
    (s.unlist i).lapseOverflow = s.lapseOverflow := rfl
@[simp] theorem unlist_free (s : State) (i : Byte) :
    (s.unlist i).free = s.free := rfl
@[simp] theorem unlist_contents (s : State) (i : Byte) :
    (s.unlist i).contents = s.contents := rfl
@[simp] theorem unlist_divert (s : State) (i : Byte) :
    (s.unlist i).divert = s.divert := rfl
@[simp] theorem unlist_responses (s : State) (i : Byte) :
    (s.unlist i).responses = s.responses := rfl
@[simp] theorem unlist_alertSlot (s : State) (i : Byte) :
    (s.unlist i).alertSlot = s.alertSlot := rfl
@[simp] theorem unlist_mgmt (s : State) (i : Byte) :
    (s.unlist i).mgmt = s.mgmt := rfl
@[simp] theorem unlist_causes (s : State) (i : Byte) :
    (s.unlist i).causes = s.causes := rfl
@[simp] theorem unlist_enables (s : State) (i : Byte) :
    (s.unlist i).enables = s.enables := rfl
@[simp] theorem unlist_alertNumber (s : State) (i : Byte) :
    (s.unlist i).alertNumber = s.alertNumber := rfl
@[simp] theorem unlist_pending (s : State) (i : Byte) :
    (s.unlist i).pending = s.pending := rfl
@[simp] theorem unlist_running (s : State) (i : Byte) :
    (s.unlist i).running = s.running := rfl
@[simp] theorem unlist_entry (s : State) (i : Byte) (i' : Byte) :
    (s.unlist i).entry i' = s.entry i' := rfl
@[simp] theorem unlist_gateOf (s : State) (i : Byte) (e' : Entry) :
    (s.unlist i).gateOf e' = s.gateOf e' := rfl
@[simp] theorem unlist_lockedEntry (s : State) (i : Byte) (e' : Entry) :
    (s.unlist i).lockedEntry e' = s.lockedEntry e' := rfl
@[simp] theorem unlist_hasPlace (s : State) (i : Byte) :
    (s.unlist i).hasPlace = s.hasPlace := rfl
@[simp] theorem unlist_port (s : State) (i : Byte) (p' : Port) :
    (s.unlist i).port p' = s.port p' := by
  cases p' <;> simp [State.port]

/-! ### A change of the management unit -/
@[simp] theorem modMgmt_resetLow (s : State) (f : Mgmt → Mgmt) :
    (s.modMgmt f).resetLow = s.resetLow := rfl
@[simp] theorem modMgmt_powered (s : State) (f : Mgmt → Mgmt) :
    (s.modMgmt f).powered = s.powered := rfl
@[simp] theorem modMgmt_freezeLow (s : State) (f : Mgmt → Mgmt) :
    (s.modMgmt f).freezeLow = s.freezeLow := rfl
@[simp] theorem modMgmt_mode (s : State) (f : Mgmt → Mgmt) :
    (s.modMgmt f).mode = s.mode := rfl
@[simp] theorem modMgmt_portN (s : State) (f : Mgmt → Mgmt) :
    (s.modMgmt f).portN = s.portN := rfl
@[simp] theorem modMgmt_portS (s : State) (f : Mgmt → Mgmt) :
    (s.modMgmt f).portS = s.portS := rfl
@[simp] theorem modMgmt_table (s : State) (f : Mgmt → Mgmt) :
    (s.modMgmt f).table = s.table := rfl
@[simp] theorem modMgmt_gates (s : State) (f : Mgmt → Mgmt) :
    (s.modMgmt f).gates = s.gates := rfl
@[simp] theorem modMgmt_groupLocks (s : State) (f : Mgmt → Mgmt) :
    (s.modMgmt f).groupLocks = s.groupLocks := rfl
@[simp] theorem modMgmt_configLock (s : State) (f : Mgmt → Mgmt) :
    (s.modMgmt f).configLock = s.configLock := rfl
@[simp] theorem modMgmt_mgmtId (s : State) (f : Mgmt → Mgmt) :
    (s.modMgmt f).mgmtId = s.mgmtId := rfl
@[simp] theorem modMgmt_lapseList (s : State) (f : Mgmt → Mgmt) :
    (s.modMgmt f).lapseList = s.lapseList := rfl
@[simp] theorem modMgmt_lapseOverflow (s : State) (f : Mgmt → Mgmt) :
    (s.modMgmt f).lapseOverflow = s.lapseOverflow := rfl
@[simp] theorem modMgmt_free (s : State) (f : Mgmt → Mgmt) :
    (s.modMgmt f).free = s.free := rfl
@[simp] theorem modMgmt_contents (s : State) (f : Mgmt → Mgmt) :
    (s.modMgmt f).contents = s.contents := rfl
@[simp] theorem modMgmt_divert (s : State) (f : Mgmt → Mgmt) :
    (s.modMgmt f).divert = s.divert := rfl
@[simp] theorem modMgmt_responses (s : State) (f : Mgmt → Mgmt) :
    (s.modMgmt f).responses = s.responses := rfl
@[simp] theorem modMgmt_alertSlot (s : State) (f : Mgmt → Mgmt) :
    (s.modMgmt f).alertSlot = s.alertSlot := rfl
@[simp] theorem modMgmt_causes (s : State) (f : Mgmt → Mgmt) :
    (s.modMgmt f).causes = s.causes := rfl
@[simp] theorem modMgmt_enables (s : State) (f : Mgmt → Mgmt) :
    (s.modMgmt f).enables = s.enables := rfl
@[simp] theorem modMgmt_alertNumber (s : State) (f : Mgmt → Mgmt) :
    (s.modMgmt f).alertNumber = s.alertNumber := rfl
@[simp] theorem modMgmt_pending (s : State) (f : Mgmt → Mgmt) :
    (s.modMgmt f).pending = s.pending := rfl
@[simp] theorem modMgmt_running (s : State) (f : Mgmt → Mgmt) :
    (s.modMgmt f).running = s.running := rfl
@[simp] theorem modMgmt_entry (s : State) (f : Mgmt → Mgmt) (i' : Byte) :
    (s.modMgmt f).entry i' = s.entry i' := rfl
@[simp] theorem modMgmt_gateOf (s : State) (f : Mgmt → Mgmt) (e' : Entry) :
    (s.modMgmt f).gateOf e' = s.gateOf e' := rfl
@[simp] theorem modMgmt_lockedEntry (s : State) (f : Mgmt → Mgmt) (e' : Entry) :
    (s.modMgmt f).lockedEntry e' = s.lockedEntry e' := rfl
@[simp] theorem modMgmt_hasPlace (s : State) (f : Mgmt → Mgmt) :
    (s.modMgmt f).hasPlace = s.hasPlace := rfl
@[simp] theorem modMgmt_port (s : State) (f : Mgmt → Mgmt) (p' : Port) :
    (s.modMgmt f).port p' = s.port p' := by
  cases p' <;> simp [State.port]
@[simp] theorem modMgmt_pendingCauses (s : State) (f : Mgmt → Mgmt) :
    (s.modMgmt f).pendingCauses = s.pendingCauses := rfl

/-! ### A request left unanswered -/
@[simp] theorem unanswered_resetLow (s : State) :
    s.unanswered.resetLow = s.resetLow := rfl
@[simp] theorem unanswered_powered (s : State) :
    s.unanswered.powered = s.powered := rfl
@[simp] theorem unanswered_freezeLow (s : State) :
    s.unanswered.freezeLow = s.freezeLow := rfl
@[simp] theorem unanswered_mode (s : State) :
    s.unanswered.mode = s.mode := rfl
@[simp] theorem unanswered_portN (s : State) :
    s.unanswered.portN = s.portN := rfl
@[simp] theorem unanswered_portS (s : State) :
    s.unanswered.portS = s.portS := rfl
@[simp] theorem unanswered_table (s : State) :
    s.unanswered.table = s.table := rfl
@[simp] theorem unanswered_gates (s : State) :
    s.unanswered.gates = s.gates := rfl
@[simp] theorem unanswered_groupLocks (s : State) :
    s.unanswered.groupLocks = s.groupLocks := rfl
@[simp] theorem unanswered_configLock (s : State) :
    s.unanswered.configLock = s.configLock := rfl
@[simp] theorem unanswered_mgmtId (s : State) :
    s.unanswered.mgmtId = s.mgmtId := rfl
@[simp] theorem unanswered_lapseList (s : State) :
    s.unanswered.lapseList = s.lapseList := rfl
@[simp] theorem unanswered_lapseOverflow (s : State) :
    s.unanswered.lapseOverflow = s.lapseOverflow := rfl
@[simp] theorem unanswered_free (s : State) :
    s.unanswered.free = s.free := rfl
@[simp] theorem unanswered_contents (s : State) :
    s.unanswered.contents = s.contents := rfl
@[simp] theorem unanswered_divert (s : State) :
    s.unanswered.divert = s.divert := rfl
@[simp] theorem unanswered_responses (s : State) :
    s.unanswered.responses = s.responses := rfl
@[simp] theorem unanswered_alertSlot (s : State) :
    s.unanswered.alertSlot = s.alertSlot := rfl
@[simp] theorem unanswered_causes (s : State) :
    s.unanswered.causes = s.causes := rfl
@[simp] theorem unanswered_enables (s : State) :
    s.unanswered.enables = s.enables := rfl
@[simp] theorem unanswered_alertNumber (s : State) :
    s.unanswered.alertNumber = s.alertNumber := rfl
@[simp] theorem unanswered_pending (s : State) :
    s.unanswered.pending = s.pending := rfl
@[simp] theorem unanswered_running (s : State)  :
    s.unanswered.running = s.running := rfl
@[simp] theorem unanswered_entry (s : State)  (i' : Byte) :
    s.unanswered.entry i' = s.entry i' := rfl
@[simp] theorem unanswered_gateOf (s : State)  (e' : Entry) :
    s.unanswered.gateOf e' = s.gateOf e' := rfl
@[simp] theorem unanswered_lockedEntry (s : State)  (e' : Entry) :
    s.unanswered.lockedEntry e' = s.lockedEntry e' := rfl
@[simp] theorem unanswered_hasPlace (s : State)  :
    s.unanswered.hasPlace = s.hasPlace := rfl
@[simp] theorem unanswered_port (s : State)  (p' : Port) :
    s.unanswered.port p' = s.port p' := by
  cases p' <;> simp [State.port]
@[simp] theorem unanswered_pendingCauses (s : State)  :
    s.unanswered.pendingCauses = s.pendingCauses := rfl

/-! ### The end of a transmission -/
@[simp] theorem endTx_resetLow (s : State) (p : Port) (tx : Tx) :
    (s.endTx p tx).resetLow = s.resetLow := by
  simp [State.endTx]
@[simp] theorem endTx_powered (s : State) (p : Port) (tx : Tx) :
    (s.endTx p tx).powered = s.powered := by
  simp [State.endTx]
@[simp] theorem endTx_freezeLow (s : State) (p : Port) (tx : Tx) :
    (s.endTx p tx).freezeLow = s.freezeLow := by
  simp [State.endTx]
@[simp] theorem endTx_mode (s : State) (p : Port) (tx : Tx) :
    (s.endTx p tx).mode = s.mode := by
  simp [State.endTx]
@[simp] theorem endTx_table (s : State) (p : Port) (tx : Tx) :
    (s.endTx p tx).table = s.table := by
  simp [State.endTx]
@[simp] theorem endTx_gates (s : State) (p : Port) (tx : Tx) :
    (s.endTx p tx).gates = s.gates := by
  simp [State.endTx]
@[simp] theorem endTx_groupLocks (s : State) (p : Port) (tx : Tx) :
    (s.endTx p tx).groupLocks = s.groupLocks := by
  simp [State.endTx]
@[simp] theorem endTx_configLock (s : State) (p : Port) (tx : Tx) :
    (s.endTx p tx).configLock = s.configLock := by
  simp [State.endTx]
@[simp] theorem endTx_mgmtId (s : State) (p : Port) (tx : Tx) :
    (s.endTx p tx).mgmtId = s.mgmtId := by
  simp [State.endTx]
@[simp] theorem endTx_lapseList (s : State) (p : Port) (tx : Tx) :
    (s.endTx p tx).lapseList = s.lapseList := by
  simp [State.endTx]
@[simp] theorem endTx_lapseOverflow (s : State) (p : Port) (tx : Tx) :
    (s.endTx p tx).lapseOverflow = s.lapseOverflow := by
  simp [State.endTx]
@[simp] theorem endTx_contents (s : State) (p : Port) (tx : Tx) :
    (s.endTx p tx).contents = s.contents := by
  simp [State.endTx]
@[simp] theorem endTx_divert (s : State) (p : Port) (tx : Tx) :
    (s.endTx p tx).divert = s.divert := by
  simp [State.endTx]
@[simp] theorem endTx_responses (s : State) (p : Port) (tx : Tx) :
    (s.endTx p tx).responses = s.responses := by
  simp [State.endTx]
@[simp] theorem endTx_alertSlot (s : State) (p : Port) (tx : Tx) :
    (s.endTx p tx).alertSlot = s.alertSlot := by
  simp [State.endTx]
@[simp] theorem endTx_mgmt (s : State) (p : Port) (tx : Tx) :
    (s.endTx p tx).mgmt = s.mgmt := by
  simp [State.endTx]
@[simp] theorem endTx_causes (s : State) (p : Port) (tx : Tx) :
    (s.endTx p tx).causes = s.causes := by
  simp [State.endTx]
@[simp] theorem endTx_enables (s : State) (p : Port) (tx : Tx) :
    (s.endTx p tx).enables = s.enables := by
  simp [State.endTx]
@[simp] theorem endTx_alertNumber (s : State) (p : Port) (tx : Tx) :
    (s.endTx p tx).alertNumber = s.alertNumber := by
  simp [State.endTx]
@[simp] theorem endTx_pending (s : State) (p : Port) (tx : Tx) :
    (s.endTx p tx).pending = s.pending := by
  simp [State.endTx]
@[simp] theorem endTx_running (s : State) (p : Port) (tx : Tx) :
    (s.endTx p tx).running = s.running := by
  simp [State.running]
@[simp] theorem endTx_entry (s : State) (p : Port) (tx : Tx) (i' : Byte) :
    (s.endTx p tx).entry i' = s.entry i' := by
  simp [State.entry]
@[simp] theorem endTx_gateOf (s : State) (p : Port) (tx : Tx) (e' : Entry) :
    (s.endTx p tx).gateOf e' = s.gateOf e' := by
  simp [State.gateOf]
@[simp] theorem endTx_lockedEntry (s : State) (p : Port) (tx : Tx) (e' : Entry) :
    (s.endTx p tx).lockedEntry e' = s.lockedEntry e' := by
  simp [State.lockedEntry]
@[simp] theorem endTx_hasPlace (s : State) (p : Port) (tx : Tx) :
    (s.endTx p tx).hasPlace = s.hasPlace := by
  simp [State.hasPlace]
@[simp] theorem endTx_pendingCauses (s : State) (p : Port) (tx : Tx) :
    (s.endTx p tx).pendingCauses = s.pendingCauses := by
  simp [State.pendingCauses]

/-! ### A port's queues emptied -/
@[simp] theorem emptyQueues_resetLow (s : State) (p : Port) :
    (s.emptyQueues p).resetLow = s.resetLow := by
  simp [State.emptyQueues]
@[simp] theorem emptyQueues_powered (s : State) (p : Port) :
    (s.emptyQueues p).powered = s.powered := by
  simp [State.emptyQueues]
@[simp] theorem emptyQueues_freezeLow (s : State) (p : Port) :
    (s.emptyQueues p).freezeLow = s.freezeLow := by
  simp [State.emptyQueues]
@[simp] theorem emptyQueues_mode (s : State) (p : Port) :
    (s.emptyQueues p).mode = s.mode := by
  simp [State.emptyQueues]
@[simp] theorem emptyQueues_table (s : State) (p : Port) :
    (s.emptyQueues p).table = s.table := by
  simp [State.emptyQueues]
@[simp] theorem emptyQueues_gates (s : State) (p : Port) :
    (s.emptyQueues p).gates = s.gates := by
  simp [State.emptyQueues]
@[simp] theorem emptyQueues_groupLocks (s : State) (p : Port) :
    (s.emptyQueues p).groupLocks = s.groupLocks := by
  simp [State.emptyQueues]
@[simp] theorem emptyQueues_configLock (s : State) (p : Port) :
    (s.emptyQueues p).configLock = s.configLock := by
  simp [State.emptyQueues]
@[simp] theorem emptyQueues_mgmtId (s : State) (p : Port) :
    (s.emptyQueues p).mgmtId = s.mgmtId := by
  simp [State.emptyQueues]
@[simp] theorem emptyQueues_lapseList (s : State) (p : Port) :
    (s.emptyQueues p).lapseList = s.lapseList := by
  simp [State.emptyQueues]
@[simp] theorem emptyQueues_lapseOverflow (s : State) (p : Port) :
    (s.emptyQueues p).lapseOverflow = s.lapseOverflow := by
  simp [State.emptyQueues]
@[simp] theorem emptyQueues_contents (s : State) (p : Port) :
    (s.emptyQueues p).contents = s.contents := by
  simp [State.emptyQueues]
@[simp] theorem emptyQueues_divert (s : State) (p : Port) :
    (s.emptyQueues p).divert = s.divert := by
  simp [State.emptyQueues]
@[simp] theorem emptyQueues_responses (s : State) (p : Port) :
    (s.emptyQueues p).responses = s.responses := by
  simp [State.emptyQueues]
@[simp] theorem emptyQueues_alertSlot (s : State) (p : Port) :
    (s.emptyQueues p).alertSlot = s.alertSlot := by
  simp [State.emptyQueues]
@[simp] theorem emptyQueues_mgmt (s : State) (p : Port) :
    (s.emptyQueues p).mgmt = s.mgmt := by
  simp [State.emptyQueues]
@[simp] theorem emptyQueues_causes (s : State) (p : Port) :
    (s.emptyQueues p).causes = s.causes := by
  simp [State.emptyQueues]
@[simp] theorem emptyQueues_enables (s : State) (p : Port) :
    (s.emptyQueues p).enables = s.enables := by
  simp [State.emptyQueues]
@[simp] theorem emptyQueues_alertNumber (s : State) (p : Port) :
    (s.emptyQueues p).alertNumber = s.alertNumber := by
  simp [State.emptyQueues]
@[simp] theorem emptyQueues_pending (s : State) (p : Port) :
    (s.emptyQueues p).pending = s.pending := by
  simp [State.emptyQueues]
@[simp] theorem emptyQueues_running (s : State) (p : Port) :
    (s.emptyQueues p).running = s.running := by
  simp [State.running]
@[simp] theorem emptyQueues_entry (s : State) (p : Port) (i' : Byte) :
    (s.emptyQueues p).entry i' = s.entry i' := by
  simp [State.entry]
@[simp] theorem emptyQueues_gateOf (s : State) (p : Port) (e' : Entry) :
    (s.emptyQueues p).gateOf e' = s.gateOf e' := by
  simp [State.gateOf]
@[simp] theorem emptyQueues_lockedEntry (s : State) (p : Port) (e' : Entry) :
    (s.emptyQueues p).lockedEntry e' = s.lockedEntry e' := by
  simp [State.lockedEntry]
@[simp] theorem emptyQueues_hasPlace (s : State) (p : Port) :
    (s.emptyQueues p).hasPlace = s.hasPlace := by
  simp [State.hasPlace]
@[simp] theorem emptyQueues_pendingCauses (s : State) (p : Port) :
    (s.emptyQueues p).pendingCauses = s.pendingCauses := by
  simp [State.pendingCauses]

/-! ### A port's queues flushed -/
@[simp] theorem flushQueues_resetLow (s : State) (p : Port) :
    (s.flushQueues p).resetLow = s.resetLow := by
  simp [State.flushQueues]
@[simp] theorem flushQueues_powered (s : State) (p : Port) :
    (s.flushQueues p).powered = s.powered := by
  simp [State.flushQueues]
@[simp] theorem flushQueues_freezeLow (s : State) (p : Port) :
    (s.flushQueues p).freezeLow = s.freezeLow := by
  simp [State.flushQueues]
@[simp] theorem flushQueues_mode (s : State) (p : Port) :
    (s.flushQueues p).mode = s.mode := by
  simp [State.flushQueues]
@[simp] theorem flushQueues_table (s : State) (p : Port) :
    (s.flushQueues p).table = s.table := by
  simp [State.flushQueues]
@[simp] theorem flushQueues_gates (s : State) (p : Port) :
    (s.flushQueues p).gates = s.gates := by
  simp [State.flushQueues]
@[simp] theorem flushQueues_groupLocks (s : State) (p : Port) :
    (s.flushQueues p).groupLocks = s.groupLocks := by
  simp [State.flushQueues]
@[simp] theorem flushQueues_configLock (s : State) (p : Port) :
    (s.flushQueues p).configLock = s.configLock := by
  simp [State.flushQueues]
@[simp] theorem flushQueues_mgmtId (s : State) (p : Port) :
    (s.flushQueues p).mgmtId = s.mgmtId := by
  simp [State.flushQueues]
@[simp] theorem flushQueues_lapseList (s : State) (p : Port) :
    (s.flushQueues p).lapseList = s.lapseList := by
  simp [State.flushQueues]
@[simp] theorem flushQueues_lapseOverflow (s : State) (p : Port) :
    (s.flushQueues p).lapseOverflow = s.lapseOverflow := by
  simp [State.flushQueues]
@[simp] theorem flushQueues_contents (s : State) (p : Port) :
    (s.flushQueues p).contents = s.contents := by
  simp [State.flushQueues]
@[simp] theorem flushQueues_divert (s : State) (p : Port) :
    (s.flushQueues p).divert = s.divert := by
  simp [State.flushQueues]
@[simp] theorem flushQueues_responses (s : State) (p : Port) :
    (s.flushQueues p).responses = s.responses := by
  simp [State.flushQueues]
@[simp] theorem flushQueues_alertSlot (s : State) (p : Port) :
    (s.flushQueues p).alertSlot = s.alertSlot := by
  simp [State.flushQueues]
@[simp] theorem flushQueues_mgmt (s : State) (p : Port) :
    (s.flushQueues p).mgmt = s.mgmt := by
  simp [State.flushQueues]
@[simp] theorem flushQueues_causes (s : State) (p : Port) :
    (s.flushQueues p).causes = s.causes := by
  simp [State.flushQueues]
@[simp] theorem flushQueues_enables (s : State) (p : Port) :
    (s.flushQueues p).enables = s.enables := by
  simp [State.flushQueues]
@[simp] theorem flushQueues_alertNumber (s : State) (p : Port) :
    (s.flushQueues p).alertNumber = s.alertNumber := by
  simp [State.flushQueues]
@[simp] theorem flushQueues_pending (s : State) (p : Port) :
    (s.flushQueues p).pending = s.pending := by
  simp [State.flushQueues]
@[simp] theorem flushQueues_running (s : State) (p : Port) :
    (s.flushQueues p).running = s.running := by
  simp [State.running]
@[simp] theorem flushQueues_entry (s : State) (p : Port) (i' : Byte) :
    (s.flushQueues p).entry i' = s.entry i' := by
  simp [State.entry]
@[simp] theorem flushQueues_gateOf (s : State) (p : Port) (e' : Entry) :
    (s.flushQueues p).gateOf e' = s.gateOf e' := by
  simp [State.gateOf]
@[simp] theorem flushQueues_lockedEntry (s : State) (p : Port) (e' : Entry) :
    (s.flushQueues p).lockedEntry e' = s.lockedEntry e' := by
  simp [State.lockedEntry]
@[simp] theorem flushQueues_hasPlace (s : State) (p : Port) :
    (s.flushQueues p).hasPlace = s.hasPlace := by
  simp [State.hasPlace]
@[simp] theorem flushQueues_pendingCauses (s : State) (p : Port) :
    (s.flushQueues p).pendingCauses = s.pendingCauses := by
  simp [State.pendingCauses]

/-! ### Any transmission abandoned -/
@[simp] theorem abandon_resetLow (s : State) (p : Port) :
    (s.abandon p).resetLow = s.resetLow := by
  unfold State.abandon; split <;> simp
@[simp] theorem abandon_powered (s : State) (p : Port) :
    (s.abandon p).powered = s.powered := by
  unfold State.abandon; split <;> simp
@[simp] theorem abandon_freezeLow (s : State) (p : Port) :
    (s.abandon p).freezeLow = s.freezeLow := by
  unfold State.abandon; split <;> simp
@[simp] theorem abandon_mode (s : State) (p : Port) :
    (s.abandon p).mode = s.mode := by
  unfold State.abandon; split <;> simp
@[simp] theorem abandon_table (s : State) (p : Port) :
    (s.abandon p).table = s.table := by
  unfold State.abandon; split <;> simp
@[simp] theorem abandon_gates (s : State) (p : Port) :
    (s.abandon p).gates = s.gates := by
  unfold State.abandon; split <;> simp
@[simp] theorem abandon_groupLocks (s : State) (p : Port) :
    (s.abandon p).groupLocks = s.groupLocks := by
  unfold State.abandon; split <;> simp
@[simp] theorem abandon_configLock (s : State) (p : Port) :
    (s.abandon p).configLock = s.configLock := by
  unfold State.abandon; split <;> simp
@[simp] theorem abandon_mgmtId (s : State) (p : Port) :
    (s.abandon p).mgmtId = s.mgmtId := by
  unfold State.abandon; split <;> simp
@[simp] theorem abandon_lapseList (s : State) (p : Port) :
    (s.abandon p).lapseList = s.lapseList := by
  unfold State.abandon; split <;> simp
@[simp] theorem abandon_lapseOverflow (s : State) (p : Port) :
    (s.abandon p).lapseOverflow = s.lapseOverflow := by
  unfold State.abandon; split <;> simp
@[simp] theorem abandon_contents (s : State) (p : Port) :
    (s.abandon p).contents = s.contents := by
  unfold State.abandon; split <;> simp
@[simp] theorem abandon_divert (s : State) (p : Port) :
    (s.abandon p).divert = s.divert := by
  unfold State.abandon; split <;> simp
@[simp] theorem abandon_responses (s : State) (p : Port) :
    (s.abandon p).responses = s.responses := by
  unfold State.abandon; split <;> simp
@[simp] theorem abandon_alertSlot (s : State) (p : Port) :
    (s.abandon p).alertSlot = s.alertSlot := by
  unfold State.abandon; split <;> simp
@[simp] theorem abandon_mgmt (s : State) (p : Port) :
    (s.abandon p).mgmt = s.mgmt := by
  unfold State.abandon; split <;> simp
@[simp] theorem abandon_causes (s : State) (p : Port) :
    (s.abandon p).causes = s.causes := by
  unfold State.abandon; split <;> simp
@[simp] theorem abandon_enables (s : State) (p : Port) :
    (s.abandon p).enables = s.enables := by
  unfold State.abandon; split <;> simp
@[simp] theorem abandon_alertNumber (s : State) (p : Port) :
    (s.abandon p).alertNumber = s.alertNumber := by
  unfold State.abandon; split <;> simp
@[simp] theorem abandon_pending (s : State) (p : Port) :
    (s.abandon p).pending = s.pending := by
  unfold State.abandon; split <;> simp
@[simp] theorem abandon_running (s : State) (p : Port) :
    (s.abandon p).running = s.running := by
  simp [State.running]
@[simp] theorem abandon_entry (s : State) (p : Port) (i' : Byte) :
    (s.abandon p).entry i' = s.entry i' := by
  simp [State.entry]
@[simp] theorem abandon_gateOf (s : State) (p : Port) (e' : Entry) :
    (s.abandon p).gateOf e' = s.gateOf e' := by
  simp [State.gateOf]
@[simp] theorem abandon_lockedEntry (s : State) (p : Port) (e' : Entry) :
    (s.abandon p).lockedEntry e' = s.lockedEntry e' := by
  simp [State.lockedEntry]
@[simp] theorem abandon_hasPlace (s : State) (p : Port) :
    (s.abandon p).hasPlace = s.hasPlace := by
  simp [State.hasPlace]
@[simp] theorem abandon_pendingCauses (s : State) (p : Port) :
    (s.abandon p).pendingCauses = s.pendingCauses := by
  simp [State.pendingCauses]

/-! ### A traffic transmission abandoned -/
@[simp] theorem abandonTraffic_resetLow (s : State) (p : Port) :
    (s.abandonTraffic p).resetLow = s.resetLow := by
  unfold State.abandonTraffic; split <;> simp
@[simp] theorem abandonTraffic_powered (s : State) (p : Port) :
    (s.abandonTraffic p).powered = s.powered := by
  unfold State.abandonTraffic; split <;> simp
@[simp] theorem abandonTraffic_freezeLow (s : State) (p : Port) :
    (s.abandonTraffic p).freezeLow = s.freezeLow := by
  unfold State.abandonTraffic; split <;> simp
@[simp] theorem abandonTraffic_mode (s : State) (p : Port) :
    (s.abandonTraffic p).mode = s.mode := by
  unfold State.abandonTraffic; split <;> simp
@[simp] theorem abandonTraffic_table (s : State) (p : Port) :
    (s.abandonTraffic p).table = s.table := by
  unfold State.abandonTraffic; split <;> simp
@[simp] theorem abandonTraffic_gates (s : State) (p : Port) :
    (s.abandonTraffic p).gates = s.gates := by
  unfold State.abandonTraffic; split <;> simp
@[simp] theorem abandonTraffic_groupLocks (s : State) (p : Port) :
    (s.abandonTraffic p).groupLocks = s.groupLocks := by
  unfold State.abandonTraffic; split <;> simp
@[simp] theorem abandonTraffic_configLock (s : State) (p : Port) :
    (s.abandonTraffic p).configLock = s.configLock := by
  unfold State.abandonTraffic; split <;> simp
@[simp] theorem abandonTraffic_mgmtId (s : State) (p : Port) :
    (s.abandonTraffic p).mgmtId = s.mgmtId := by
  unfold State.abandonTraffic; split <;> simp
@[simp] theorem abandonTraffic_lapseList (s : State) (p : Port) :
    (s.abandonTraffic p).lapseList = s.lapseList := by
  unfold State.abandonTraffic; split <;> simp
@[simp] theorem abandonTraffic_lapseOverflow (s : State) (p : Port) :
    (s.abandonTraffic p).lapseOverflow = s.lapseOverflow := by
  unfold State.abandonTraffic; split <;> simp
@[simp] theorem abandonTraffic_contents (s : State) (p : Port) :
    (s.abandonTraffic p).contents = s.contents := by
  unfold State.abandonTraffic; split <;> simp
@[simp] theorem abandonTraffic_divert (s : State) (p : Port) :
    (s.abandonTraffic p).divert = s.divert := by
  unfold State.abandonTraffic; split <;> simp
@[simp] theorem abandonTraffic_responses (s : State) (p : Port) :
    (s.abandonTraffic p).responses = s.responses := by
  unfold State.abandonTraffic; split <;> simp
@[simp] theorem abandonTraffic_alertSlot (s : State) (p : Port) :
    (s.abandonTraffic p).alertSlot = s.alertSlot := by
  unfold State.abandonTraffic; split <;> simp
@[simp] theorem abandonTraffic_mgmt (s : State) (p : Port) :
    (s.abandonTraffic p).mgmt = s.mgmt := by
  unfold State.abandonTraffic; split <;> simp
@[simp] theorem abandonTraffic_causes (s : State) (p : Port) :
    (s.abandonTraffic p).causes = s.causes := by
  unfold State.abandonTraffic; split <;> simp
@[simp] theorem abandonTraffic_enables (s : State) (p : Port) :
    (s.abandonTraffic p).enables = s.enables := by
  unfold State.abandonTraffic; split <;> simp
@[simp] theorem abandonTraffic_alertNumber (s : State) (p : Port) :
    (s.abandonTraffic p).alertNumber = s.alertNumber := by
  unfold State.abandonTraffic; split <;> simp
@[simp] theorem abandonTraffic_pending (s : State) (p : Port) :
    (s.abandonTraffic p).pending = s.pending := by
  unfold State.abandonTraffic; split <;> simp
@[simp] theorem abandonTraffic_running (s : State) (p : Port) :
    (s.abandonTraffic p).running = s.running := by
  simp [State.running]
@[simp] theorem abandonTraffic_entry (s : State) (p : Port) (i' : Byte) :
    (s.abandonTraffic p).entry i' = s.entry i' := by
  simp [State.entry]
@[simp] theorem abandonTraffic_gateOf (s : State) (p : Port) (e' : Entry) :
    (s.abandonTraffic p).gateOf e' = s.gateOf e' := by
  simp [State.gateOf]
@[simp] theorem abandonTraffic_lockedEntry (s : State) (p : Port) (e' : Entry) :
    (s.abandonTraffic p).lockedEntry e' = s.lockedEntry e' := by
  simp [State.lockedEntry]
@[simp] theorem abandonTraffic_hasPlace (s : State) (p : Port) :
    (s.abandonTraffic p).hasPlace = s.hasPlace := by
  simp [State.hasPlace]
@[simp] theorem abandonTraffic_pendingCauses (s : State) (p : Port) :
    (s.abandonTraffic p).pendingCauses = s.pendingCauses := by
  simp [State.pendingCauses]

/-! ### Entry into HALTED -/
@[simp] theorem enterHalted_resetLow (s : State) :
    s.enterHalted.resetLow = s.resetLow := by
  simp [State.enterHalted]
@[simp] theorem enterHalted_powered (s : State) :
    s.enterHalted.powered = s.powered := by
  simp [State.enterHalted]
@[simp] theorem enterHalted_freezeLow (s : State) :
    s.enterHalted.freezeLow = s.freezeLow := by
  simp [State.enterHalted]
@[simp] theorem enterHalted_mode (s : State) :
    s.enterHalted.mode = s.mode := by
  simp [State.enterHalted]
@[simp] theorem enterHalted_table (s : State) :
    s.enterHalted.table = s.table := by
  simp [State.enterHalted]
@[simp] theorem enterHalted_gates (s : State) :
    s.enterHalted.gates = s.gates := by
  simp [State.enterHalted]
@[simp] theorem enterHalted_groupLocks (s : State) :
    s.enterHalted.groupLocks = s.groupLocks := by
  simp [State.enterHalted]
@[simp] theorem enterHalted_configLock (s : State) :
    s.enterHalted.configLock = s.configLock := by
  simp [State.enterHalted]
@[simp] theorem enterHalted_mgmtId (s : State) :
    s.enterHalted.mgmtId = s.mgmtId := by
  simp [State.enterHalted]
@[simp] theorem enterHalted_lapseList (s : State) :
    s.enterHalted.lapseList = s.lapseList := by
  simp [State.enterHalted]
@[simp] theorem enterHalted_lapseOverflow (s : State) :
    s.enterHalted.lapseOverflow = s.lapseOverflow := by
  simp [State.enterHalted]
@[simp] theorem enterHalted_contents (s : State) :
    s.enterHalted.contents = s.contents := by
  simp [State.enterHalted]
@[simp] theorem enterHalted_divert (s : State) :
    s.enterHalted.divert = s.divert := by
  simp [State.enterHalted]
@[simp] theorem enterHalted_responses (s : State) :
    s.enterHalted.responses = s.responses := by
  simp [State.enterHalted]
@[simp] theorem enterHalted_alertSlot (s : State) :
    s.enterHalted.alertSlot = s.alertSlot := by
  simp [State.enterHalted]
@[simp] theorem enterHalted_mgmt (s : State) :
    s.enterHalted.mgmt = s.mgmt := by
  simp [State.enterHalted]
@[simp] theorem enterHalted_causes (s : State) :
    s.enterHalted.causes = s.causes := by
  simp [State.enterHalted]
@[simp] theorem enterHalted_enables (s : State) :
    s.enterHalted.enables = s.enables := by
  simp [State.enterHalted]
@[simp] theorem enterHalted_alertNumber (s : State) :
    s.enterHalted.alertNumber = s.alertNumber := by
  simp [State.enterHalted]
@[simp] theorem enterHalted_pending (s : State) :
    s.enterHalted.pending = s.pending := by
  simp [State.enterHalted]
@[simp] theorem enterHalted_running (s : State)  :
    s.enterHalted.running = s.running := by
  simp [State.running]
@[simp] theorem enterHalted_entry (s : State)  (i' : Byte) :
    s.enterHalted.entry i' = s.entry i' := by
  simp [State.entry]
@[simp] theorem enterHalted_gateOf (s : State)  (e' : Entry) :
    s.enterHalted.gateOf e' = s.gateOf e' := by
  simp [State.gateOf]
@[simp] theorem enterHalted_lockedEntry (s : State)  (e' : Entry) :
    s.enterHalted.lockedEntry e' = s.lockedEntry e' := by
  simp [State.lockedEntry]
@[simp] theorem enterHalted_hasPlace (s : State)  :
    s.enterHalted.hasPlace = s.hasPlace := by
  simp [State.hasPlace]
@[simp] theorem enterHalted_pendingCauses (s : State)  :
    s.enterHalted.pendingCauses = s.pendingCauses := by
  simp [State.pendingCauses]

/-! ### An ALERT placed -/
@[simp] theorem placeAlert_resetLow (s : State) :
    s.placeAlert.resetLow = s.resetLow := by
  unfold State.placeAlert; split <;> rfl
@[simp] theorem placeAlert_powered (s : State) :
    s.placeAlert.powered = s.powered := by
  unfold State.placeAlert; split <;> rfl
@[simp] theorem placeAlert_freezeLow (s : State) :
    s.placeAlert.freezeLow = s.freezeLow := by
  unfold State.placeAlert; split <;> rfl
@[simp] theorem placeAlert_mode (s : State) :
    s.placeAlert.mode = s.mode := by
  unfold State.placeAlert; split <;> rfl
@[simp] theorem placeAlert_portN (s : State) :
    s.placeAlert.portN = s.portN := by
  unfold State.placeAlert; split <;> rfl
@[simp] theorem placeAlert_portS (s : State) :
    s.placeAlert.portS = s.portS := by
  unfold State.placeAlert; split <;> rfl
@[simp] theorem placeAlert_table (s : State) :
    s.placeAlert.table = s.table := by
  unfold State.placeAlert; split <;> rfl
@[simp] theorem placeAlert_gates (s : State) :
    s.placeAlert.gates = s.gates := by
  unfold State.placeAlert; split <;> rfl
@[simp] theorem placeAlert_groupLocks (s : State) :
    s.placeAlert.groupLocks = s.groupLocks := by
  unfold State.placeAlert; split <;> rfl
@[simp] theorem placeAlert_configLock (s : State) :
    s.placeAlert.configLock = s.configLock := by
  unfold State.placeAlert; split <;> rfl
@[simp] theorem placeAlert_mgmtId (s : State) :
    s.placeAlert.mgmtId = s.mgmtId := by
  unfold State.placeAlert; split <;> rfl
@[simp] theorem placeAlert_lapseList (s : State) :
    s.placeAlert.lapseList = s.lapseList := by
  unfold State.placeAlert; split <;> rfl
@[simp] theorem placeAlert_lapseOverflow (s : State) :
    s.placeAlert.lapseOverflow = s.lapseOverflow := by
  unfold State.placeAlert; split <;> rfl
@[simp] theorem placeAlert_free (s : State) :
    s.placeAlert.free = s.free := by
  unfold State.placeAlert; split <;> rfl
@[simp] theorem placeAlert_contents (s : State) :
    s.placeAlert.contents = s.contents := by
  unfold State.placeAlert; split <;> rfl
@[simp] theorem placeAlert_divert (s : State) :
    s.placeAlert.divert = s.divert := by
  unfold State.placeAlert; split <;> rfl
@[simp] theorem placeAlert_responses (s : State) :
    s.placeAlert.responses = s.responses := by
  unfold State.placeAlert; split <;> rfl
@[simp] theorem placeAlert_mgmt (s : State) :
    s.placeAlert.mgmt = s.mgmt := by
  unfold State.placeAlert; split <;> rfl
@[simp] theorem placeAlert_causes (s : State) :
    s.placeAlert.causes = s.causes := by
  unfold State.placeAlert; split <;> rfl
@[simp] theorem placeAlert_enables (s : State) :
    s.placeAlert.enables = s.enables := by
  unfold State.placeAlert; split <;> rfl
@[simp] theorem placeAlert_pending (s : State) :
    s.placeAlert.pending = s.pending := by
  unfold State.placeAlert; split <;> rfl
@[simp] theorem placeAlert_running (s : State)  :
    s.placeAlert.running = s.running := by
  simp [State.running]
@[simp] theorem placeAlert_entry (s : State)  (i' : Byte) :
    s.placeAlert.entry i' = s.entry i' := by
  simp [State.entry]
@[simp] theorem placeAlert_gateOf (s : State)  (e' : Entry) :
    s.placeAlert.gateOf e' = s.gateOf e' := by
  simp [State.gateOf]
@[simp] theorem placeAlert_lockedEntry (s : State)  (e' : Entry) :
    s.placeAlert.lockedEntry e' = s.lockedEntry e' := by
  simp [State.lockedEntry]
@[simp] theorem placeAlert_hasPlace (s : State)  :
    s.placeAlert.hasPlace = s.hasPlace := by
  simp [State.hasPlace]
@[simp] theorem placeAlert_port (s : State)  (p' : Port) :
    s.placeAlert.port p' = s.port p' := by
  cases p' <;> simp [State.port]
@[simp] theorem placeAlert_pendingCauses (s : State)  :
    s.placeAlert.pendingCauses = s.pendingCauses := by
  simp [State.pendingCauses]

/-! ### A response at a request's arrival -/
@[simp] theorem respondNow_resetLow (s : State) (r : Response) :
    (s.respondNow r).resetLow = s.resetLow := by
  unfold State.respondNow; split <;> simp
@[simp] theorem respondNow_powered (s : State) (r : Response) :
    (s.respondNow r).powered = s.powered := by
  unfold State.respondNow; split <;> simp
@[simp] theorem respondNow_freezeLow (s : State) (r : Response) :
    (s.respondNow r).freezeLow = s.freezeLow := by
  unfold State.respondNow; split <;> simp
@[simp] theorem respondNow_mode (s : State) (r : Response) :
    (s.respondNow r).mode = s.mode := by
  unfold State.respondNow; split <;> simp
@[simp] theorem respondNow_portN (s : State) (r : Response) :
    (s.respondNow r).portN = s.portN := by
  unfold State.respondNow; split <;> simp
@[simp] theorem respondNow_portS (s : State) (r : Response) :
    (s.respondNow r).portS = s.portS := by
  unfold State.respondNow; split <;> simp
@[simp] theorem respondNow_table (s : State) (r : Response) :
    (s.respondNow r).table = s.table := by
  unfold State.respondNow; split <;> simp
@[simp] theorem respondNow_gates (s : State) (r : Response) :
    (s.respondNow r).gates = s.gates := by
  unfold State.respondNow; split <;> simp
@[simp] theorem respondNow_groupLocks (s : State) (r : Response) :
    (s.respondNow r).groupLocks = s.groupLocks := by
  unfold State.respondNow; split <;> simp
@[simp] theorem respondNow_configLock (s : State) (r : Response) :
    (s.respondNow r).configLock = s.configLock := by
  unfold State.respondNow; split <;> simp
@[simp] theorem respondNow_mgmtId (s : State) (r : Response) :
    (s.respondNow r).mgmtId = s.mgmtId := by
  unfold State.respondNow; split <;> simp
@[simp] theorem respondNow_lapseList (s : State) (r : Response) :
    (s.respondNow r).lapseList = s.lapseList := by
  unfold State.respondNow; split <;> simp
@[simp] theorem respondNow_lapseOverflow (s : State) (r : Response) :
    (s.respondNow r).lapseOverflow = s.lapseOverflow := by
  unfold State.respondNow; split <;> simp
@[simp] theorem respondNow_free (s : State) (r : Response) :
    (s.respondNow r).free = s.free := by
  unfold State.respondNow; split <;> simp
@[simp] theorem respondNow_contents (s : State) (r : Response) :
    (s.respondNow r).contents = s.contents := by
  unfold State.respondNow; split <;> simp
@[simp] theorem respondNow_divert (s : State) (r : Response) :
    (s.respondNow r).divert = s.divert := by
  unfold State.respondNow; split <;> simp
@[simp] theorem respondNow_alertSlot (s : State) (r : Response) :
    (s.respondNow r).alertSlot = s.alertSlot := by
  unfold State.respondNow; split <;> simp
@[simp] theorem respondNow_causes (s : State) (r : Response) :
    (s.respondNow r).causes = s.causes := by
  unfold State.respondNow; split <;> simp
@[simp] theorem respondNow_enables (s : State) (r : Response) :
    (s.respondNow r).enables = s.enables := by
  unfold State.respondNow; split <;> simp
@[simp] theorem respondNow_alertNumber (s : State) (r : Response) :
    (s.respondNow r).alertNumber = s.alertNumber := by
  unfold State.respondNow; split <;> simp
@[simp] theorem respondNow_pending (s : State) (r : Response) :
    (s.respondNow r).pending = s.pending := by
  unfold State.respondNow; split <;> simp
@[simp] theorem respondNow_running (s : State) (r : Response) :
    (s.respondNow r).running = s.running := by
  simp [State.running]
@[simp] theorem respondNow_entry (s : State) (r : Response) (i' : Byte) :
    (s.respondNow r).entry i' = s.entry i' := by
  simp [State.entry]
@[simp] theorem respondNow_gateOf (s : State) (r : Response) (e' : Entry) :
    (s.respondNow r).gateOf e' = s.gateOf e' := by
  simp [State.gateOf]
@[simp] theorem respondNow_lockedEntry (s : State) (r : Response) (e' : Entry) :
    (s.respondNow r).lockedEntry e' = s.lockedEntry e' := by
  simp [State.lockedEntry]
@[simp] theorem respondNow_port (s : State) (r : Response) (p' : Port) :
    (s.respondNow r).port p' = s.port p' := by
  cases p' <;> simp [State.port]
@[simp] theorem respondNow_pendingCauses (s : State) (r : Response) :
    (s.respondNow r).pendingCauses = s.pendingCauses := by
  simp [State.pendingCauses]

/-! ### A slot command's response -/
@[simp] theorem finish_resetLow (s : State) (r : Response) :
    (s.finish r).resetLow = s.resetLow := by
  unfold State.finish; split <;> simp
@[simp] theorem finish_powered (s : State) (r : Response) :
    (s.finish r).powered = s.powered := by
  unfold State.finish; split <;> simp
@[simp] theorem finish_freezeLow (s : State) (r : Response) :
    (s.finish r).freezeLow = s.freezeLow := by
  unfold State.finish; split <;> simp
@[simp] theorem finish_mode (s : State) (r : Response) :
    (s.finish r).mode = s.mode := by
  unfold State.finish; split <;> simp
@[simp] theorem finish_portN (s : State) (r : Response) :
    (s.finish r).portN = s.portN := by
  unfold State.finish; split <;> simp
@[simp] theorem finish_portS (s : State) (r : Response) :
    (s.finish r).portS = s.portS := by
  unfold State.finish; split <;> simp
@[simp] theorem finish_table (s : State) (r : Response) :
    (s.finish r).table = s.table := by
  unfold State.finish; split <;> simp
@[simp] theorem finish_gates (s : State) (r : Response) :
    (s.finish r).gates = s.gates := by
  unfold State.finish; split <;> simp
@[simp] theorem finish_groupLocks (s : State) (r : Response) :
    (s.finish r).groupLocks = s.groupLocks := by
  unfold State.finish; split <;> simp
@[simp] theorem finish_configLock (s : State) (r : Response) :
    (s.finish r).configLock = s.configLock := by
  unfold State.finish; split <;> simp
@[simp] theorem finish_mgmtId (s : State) (r : Response) :
    (s.finish r).mgmtId = s.mgmtId := by
  unfold State.finish; split <;> simp
@[simp] theorem finish_lapseList (s : State) (r : Response) :
    (s.finish r).lapseList = s.lapseList := by
  unfold State.finish; split <;> simp
@[simp] theorem finish_lapseOverflow (s : State) (r : Response) :
    (s.finish r).lapseOverflow = s.lapseOverflow := by
  unfold State.finish; split <;> simp
@[simp] theorem finish_free (s : State) (r : Response) :
    (s.finish r).free = s.free := by
  unfold State.finish; split <;> simp
@[simp] theorem finish_contents (s : State) (r : Response) :
    (s.finish r).contents = s.contents := by
  unfold State.finish; split <;> simp
@[simp] theorem finish_divert (s : State) (r : Response) :
    (s.finish r).divert = s.divert := by
  unfold State.finish; split <;> simp
@[simp] theorem finish_alertSlot (s : State) (r : Response) :
    (s.finish r).alertSlot = s.alertSlot := by
  unfold State.finish; split <;> simp
@[simp] theorem finish_causes (s : State) (r : Response) :
    (s.finish r).causes = s.causes := by
  unfold State.finish; split <;> simp
@[simp] theorem finish_enables (s : State) (r : Response) :
    (s.finish r).enables = s.enables := by
  unfold State.finish; split <;> simp
@[simp] theorem finish_alertNumber (s : State) (r : Response) :
    (s.finish r).alertNumber = s.alertNumber := by
  unfold State.finish; split <;> simp
@[simp] theorem finish_pending (s : State) (r : Response) :
    (s.finish r).pending = s.pending := by
  unfold State.finish; split <;> simp
@[simp] theorem finish_running (s : State) (r : Response) :
    (s.finish r).running = s.running := by
  simp [State.running]
@[simp] theorem finish_entry (s : State) (r : Response) (i' : Byte) :
    (s.finish r).entry i' = s.entry i' := by
  simp [State.entry]
@[simp] theorem finish_gateOf (s : State) (r : Response) (e' : Entry) :
    (s.finish r).gateOf e' = s.gateOf e' := by
  simp [State.gateOf]
@[simp] theorem finish_lockedEntry (s : State) (r : Response) (e' : Entry) :
    (s.finish r).lockedEntry e' = s.lockedEntry e' := by
  simp [State.lockedEntry]
@[simp] theorem finish_port (s : State) (r : Response) (p' : Port) :
    (s.finish r).port p' = s.port p' := by
  cases p' <;> simp [State.port]
@[simp] theorem finish_pendingCauses (s : State) (r : Response) :
    (s.finish r).pendingCauses = s.pendingCauses := by
  simp [State.pendingCauses]

/-! ### A frame dropped -/
@[simp] theorem dropFrame_resetLow (s : State) (b : BufId) :
    (s.dropFrame b).resetLow = s.resetLow := rfl
@[simp] theorem dropFrame_powered (s : State) (b : BufId) :
    (s.dropFrame b).powered = s.powered := rfl
@[simp] theorem dropFrame_freezeLow (s : State) (b : BufId) :
    (s.dropFrame b).freezeLow = s.freezeLow := rfl
@[simp] theorem dropFrame_mode (s : State) (b : BufId) :
    (s.dropFrame b).mode = s.mode := rfl
@[simp] theorem dropFrame_portN (s : State) (b : BufId) :
    (s.dropFrame b).portN = s.portN := rfl
@[simp] theorem dropFrame_portS (s : State) (b : BufId) :
    (s.dropFrame b).portS = s.portS := rfl
@[simp] theorem dropFrame_table (s : State) (b : BufId) :
    (s.dropFrame b).table = s.table := rfl
@[simp] theorem dropFrame_gates (s : State) (b : BufId) :
    (s.dropFrame b).gates = s.gates := rfl
@[simp] theorem dropFrame_groupLocks (s : State) (b : BufId) :
    (s.dropFrame b).groupLocks = s.groupLocks := rfl
@[simp] theorem dropFrame_configLock (s : State) (b : BufId) :
    (s.dropFrame b).configLock = s.configLock := rfl
@[simp] theorem dropFrame_mgmtId (s : State) (b : BufId) :
    (s.dropFrame b).mgmtId = s.mgmtId := rfl
@[simp] theorem dropFrame_lapseList (s : State) (b : BufId) :
    (s.dropFrame b).lapseList = s.lapseList := rfl
@[simp] theorem dropFrame_lapseOverflow (s : State) (b : BufId) :
    (s.dropFrame b).lapseOverflow = s.lapseOverflow := rfl
@[simp] theorem dropFrame_contents (s : State) (b : BufId) :
    (s.dropFrame b).contents = s.contents := rfl
@[simp] theorem dropFrame_divert (s : State) (b : BufId) :
    (s.dropFrame b).divert = s.divert := rfl
@[simp] theorem dropFrame_responses (s : State) (b : BufId) :
    (s.dropFrame b).responses = s.responses := rfl
@[simp] theorem dropFrame_alertSlot (s : State) (b : BufId) :
    (s.dropFrame b).alertSlot = s.alertSlot := rfl
@[simp] theorem dropFrame_mgmt (s : State) (b : BufId) :
    (s.dropFrame b).mgmt = s.mgmt := rfl
@[simp] theorem dropFrame_causes (s : State) (b : BufId) :
    (s.dropFrame b).causes = s.causes := rfl
@[simp] theorem dropFrame_enables (s : State) (b : BufId) :
    (s.dropFrame b).enables = s.enables := rfl
@[simp] theorem dropFrame_alertNumber (s : State) (b : BufId) :
    (s.dropFrame b).alertNumber = s.alertNumber := rfl
@[simp] theorem dropFrame_pending (s : State) (b : BufId) :
    (s.dropFrame b).pending = s.pending := rfl
@[simp] theorem dropFrame_running (s : State) (b : BufId) :
    (s.dropFrame b).running = s.running := rfl
@[simp] theorem dropFrame_entry (s : State) (b : BufId) (i' : Byte) :
    (s.dropFrame b).entry i' = s.entry i' := rfl
@[simp] theorem dropFrame_gateOf (s : State) (b : BufId) (e' : Entry) :
    (s.dropFrame b).gateOf e' = s.gateOf e' := rfl
@[simp] theorem dropFrame_lockedEntry (s : State) (b : BufId) (e' : Entry) :
    (s.dropFrame b).lockedEntry e' = s.lockedEntry e' := rfl
@[simp] theorem dropFrame_hasPlace (s : State) (b : BufId) :
    (s.dropFrame b).hasPlace = s.hasPlace := rfl
@[simp] theorem dropFrame_port (s : State) (b : BufId) (p' : Port) :
    (s.dropFrame b).port p' = s.port p' := by
  cases p' <;> simp [State.port]
@[simp] theorem dropFrame_pendingCauses (s : State) (b : BufId) :
    (s.dropFrame b).pendingCauses = s.pendingCauses := rfl

/-! ### A placement toward an egress port -/
@[simp] theorem place_resetLow (s : State) (q : Port) (c : StreamClass) (b : BufId) :
    (s.place q c b).resetLow = s.resetLow := by
  unfold State.place; split <;> simp [State.dropFrame]
@[simp] theorem place_powered (s : State) (q : Port) (c : StreamClass) (b : BufId) :
    (s.place q c b).powered = s.powered := by
  unfold State.place; split <;> simp [State.dropFrame]
@[simp] theorem place_freezeLow (s : State) (q : Port) (c : StreamClass) (b : BufId) :
    (s.place q c b).freezeLow = s.freezeLow := by
  unfold State.place; split <;> simp [State.dropFrame]
@[simp] theorem place_mode (s : State) (q : Port) (c : StreamClass) (b : BufId) :
    (s.place q c b).mode = s.mode := by
  unfold State.place; split <;> simp [State.dropFrame]
@[simp] theorem place_table (s : State) (q : Port) (c : StreamClass) (b : BufId) :
    (s.place q c b).table = s.table := by
  unfold State.place; split <;> simp [State.dropFrame]
@[simp] theorem place_gates (s : State) (q : Port) (c : StreamClass) (b : BufId) :
    (s.place q c b).gates = s.gates := by
  unfold State.place; split <;> simp [State.dropFrame]
@[simp] theorem place_groupLocks (s : State) (q : Port) (c : StreamClass) (b : BufId) :
    (s.place q c b).groupLocks = s.groupLocks := by
  unfold State.place; split <;> simp [State.dropFrame]
@[simp] theorem place_configLock (s : State) (q : Port) (c : StreamClass) (b : BufId) :
    (s.place q c b).configLock = s.configLock := by
  unfold State.place; split <;> simp [State.dropFrame]
@[simp] theorem place_mgmtId (s : State) (q : Port) (c : StreamClass) (b : BufId) :
    (s.place q c b).mgmtId = s.mgmtId := by
  unfold State.place; split <;> simp [State.dropFrame]
@[simp] theorem place_lapseList (s : State) (q : Port) (c : StreamClass) (b : BufId) :
    (s.place q c b).lapseList = s.lapseList := by
  unfold State.place; split <;> simp [State.dropFrame]
@[simp] theorem place_lapseOverflow (s : State) (q : Port) (c : StreamClass) (b : BufId) :
    (s.place q c b).lapseOverflow = s.lapseOverflow := by
  unfold State.place; split <;> simp [State.dropFrame]
@[simp] theorem place_contents (s : State) (q : Port) (c : StreamClass) (b : BufId) :
    (s.place q c b).contents = s.contents := by
  unfold State.place; split <;> simp [State.dropFrame]
@[simp] theorem place_divert (s : State) (q : Port) (c : StreamClass) (b : BufId) :
    (s.place q c b).divert = s.divert := by
  unfold State.place; split <;> simp [State.dropFrame]
@[simp] theorem place_responses (s : State) (q : Port) (c : StreamClass) (b : BufId) :
    (s.place q c b).responses = s.responses := by
  unfold State.place; split <;> simp [State.dropFrame]
@[simp] theorem place_alertSlot (s : State) (q : Port) (c : StreamClass) (b : BufId) :
    (s.place q c b).alertSlot = s.alertSlot := by
  unfold State.place; split <;> simp [State.dropFrame]
@[simp] theorem place_mgmt (s : State) (q : Port) (c : StreamClass) (b : BufId) :
    (s.place q c b).mgmt = s.mgmt := by
  unfold State.place; split <;> simp [State.dropFrame]
@[simp] theorem place_causes (s : State) (q : Port) (c : StreamClass) (b : BufId) :
    (s.place q c b).causes = s.causes := by
  unfold State.place; split <;> simp [State.dropFrame]
@[simp] theorem place_enables (s : State) (q : Port) (c : StreamClass) (b : BufId) :
    (s.place q c b).enables = s.enables := by
  unfold State.place; split <;> simp [State.dropFrame]
@[simp] theorem place_alertNumber (s : State) (q : Port) (c : StreamClass) (b : BufId) :
    (s.place q c b).alertNumber = s.alertNumber := by
  unfold State.place; split <;> simp [State.dropFrame]
@[simp] theorem place_pending (s : State) (q : Port) (c : StreamClass) (b : BufId) :
    (s.place q c b).pending = s.pending := by
  unfold State.place; split <;> simp [State.dropFrame]
@[simp] theorem place_running (s : State) (q : Port) (c : StreamClass) (b : BufId) :
    (s.place q c b).running = s.running := by
  simp [State.running]
@[simp] theorem place_entry (s : State) (q : Port) (c : StreamClass) (b : BufId) (i' : Byte) :
    (s.place q c b).entry i' = s.entry i' := by
  simp [State.entry]
@[simp] theorem place_gateOf (s : State) (q : Port) (c : StreamClass) (b : BufId) (e' : Entry) :
    (s.place q c b).gateOf e' = s.gateOf e' := by
  simp [State.gateOf]
@[simp] theorem place_lockedEntry (s : State) (q : Port) (c : StreamClass) (b : BufId) (e' : Entry) :
    (s.place q c b).lockedEntry e' = s.lockedEntry e' := by
  simp [State.lockedEntry]
@[simp] theorem place_hasPlace (s : State) (q : Port) (c : StreamClass) (b : BufId) :
    (s.place q c b).hasPlace = s.hasPlace := by
  simp [State.hasPlace]
@[simp] theorem place_pendingCauses (s : State) (q : Port) (c : StreamClass) (b : BufId) :
    (s.place q c b).pendingCauses = s.pendingCauses := by
  simp [State.pendingCauses]

/-! ### A report to a pause half -/
@[simp] theorem reportFrame_resetLow (s : State) (p : Port) (x : Placed) :
    (s.reportFrame p x).resetLow = s.resetLow := by
  simp [State.reportFrame]
@[simp] theorem reportFrame_powered (s : State) (p : Port) (x : Placed) :
    (s.reportFrame p x).powered = s.powered := by
  simp [State.reportFrame]
@[simp] theorem reportFrame_freezeLow (s : State) (p : Port) (x : Placed) :
    (s.reportFrame p x).freezeLow = s.freezeLow := by
  simp [State.reportFrame]
@[simp] theorem reportFrame_mode (s : State) (p : Port) (x : Placed) :
    (s.reportFrame p x).mode = s.mode := by
  simp [State.reportFrame]
@[simp] theorem reportFrame_table (s : State) (p : Port) (x : Placed) :
    (s.reportFrame p x).table = s.table := by
  simp [State.reportFrame]
@[simp] theorem reportFrame_gates (s : State) (p : Port) (x : Placed) :
    (s.reportFrame p x).gates = s.gates := by
  simp [State.reportFrame]
@[simp] theorem reportFrame_groupLocks (s : State) (p : Port) (x : Placed) :
    (s.reportFrame p x).groupLocks = s.groupLocks := by
  simp [State.reportFrame]
@[simp] theorem reportFrame_configLock (s : State) (p : Port) (x : Placed) :
    (s.reportFrame p x).configLock = s.configLock := by
  simp [State.reportFrame]
@[simp] theorem reportFrame_mgmtId (s : State) (p : Port) (x : Placed) :
    (s.reportFrame p x).mgmtId = s.mgmtId := by
  simp [State.reportFrame]
@[simp] theorem reportFrame_lapseList (s : State) (p : Port) (x : Placed) :
    (s.reportFrame p x).lapseList = s.lapseList := by
  simp [State.reportFrame]
@[simp] theorem reportFrame_lapseOverflow (s : State) (p : Port) (x : Placed) :
    (s.reportFrame p x).lapseOverflow = s.lapseOverflow := by
  simp [State.reportFrame]
@[simp] theorem reportFrame_free (s : State) (p : Port) (x : Placed) :
    (s.reportFrame p x).free = s.free := by
  simp [State.reportFrame]
@[simp] theorem reportFrame_contents (s : State) (p : Port) (x : Placed) :
    (s.reportFrame p x).contents = s.contents := by
  simp [State.reportFrame]
@[simp] theorem reportFrame_divert (s : State) (p : Port) (x : Placed) :
    (s.reportFrame p x).divert = s.divert := by
  simp [State.reportFrame]
@[simp] theorem reportFrame_responses (s : State) (p : Port) (x : Placed) :
    (s.reportFrame p x).responses = s.responses := by
  simp [State.reportFrame]
@[simp] theorem reportFrame_alertSlot (s : State) (p : Port) (x : Placed) :
    (s.reportFrame p x).alertSlot = s.alertSlot := by
  simp [State.reportFrame]
@[simp] theorem reportFrame_mgmt (s : State) (p : Port) (x : Placed) :
    (s.reportFrame p x).mgmt = s.mgmt := by
  simp [State.reportFrame]
@[simp] theorem reportFrame_causes (s : State) (p : Port) (x : Placed) :
    (s.reportFrame p x).causes = s.causes := by
  simp [State.reportFrame]
@[simp] theorem reportFrame_enables (s : State) (p : Port) (x : Placed) :
    (s.reportFrame p x).enables = s.enables := by
  simp [State.reportFrame]
@[simp] theorem reportFrame_alertNumber (s : State) (p : Port) (x : Placed) :
    (s.reportFrame p x).alertNumber = s.alertNumber := by
  simp [State.reportFrame]
@[simp] theorem reportFrame_pending (s : State) (p : Port) (x : Placed) :
    (s.reportFrame p x).pending = s.pending := by
  simp [State.reportFrame]
@[simp] theorem reportFrame_running (s : State) (p : Port) (x : Placed) :
    (s.reportFrame p x).running = s.running := by
  simp [State.running]
@[simp] theorem reportFrame_entry (s : State) (p : Port) (x : Placed) (i' : Byte) :
    (s.reportFrame p x).entry i' = s.entry i' := by
  simp [State.entry]
@[simp] theorem reportFrame_gateOf (s : State) (p : Port) (x : Placed) (e' : Entry) :
    (s.reportFrame p x).gateOf e' = s.gateOf e' := by
  simp [State.gateOf]
@[simp] theorem reportFrame_lockedEntry (s : State) (p : Port) (x : Placed) (e' : Entry) :
    (s.reportFrame p x).lockedEntry e' = s.lockedEntry e' := by
  simp [State.lockedEntry]
@[simp] theorem reportFrame_hasPlace (s : State) (p : Port) (x : Placed) :
    (s.reportFrame p x).hasPlace = s.hasPlace := by
  simp [State.hasPlace]
@[simp] theorem reportFrame_pendingCauses (s : State) (p : Port) (x : Placed) :
    (s.reportFrame p x).pendingCauses = s.pendingCauses := by
  simp [State.pendingCauses]

/-! ### A frame sent on an acyclic queue -/
@[simp] theorem sendAcyclic_resetLow (s : State) (p : Port) (b : BufId) :
    (s.sendAcyclic p b).resetLow = s.resetLow := by
  simp [State.sendAcyclic]
@[simp] theorem sendAcyclic_powered (s : State) (p : Port) (b : BufId) :
    (s.sendAcyclic p b).powered = s.powered := by
  simp [State.sendAcyclic]
@[simp] theorem sendAcyclic_freezeLow (s : State) (p : Port) (b : BufId) :
    (s.sendAcyclic p b).freezeLow = s.freezeLow := by
  simp [State.sendAcyclic]
@[simp] theorem sendAcyclic_mode (s : State) (p : Port) (b : BufId) :
    (s.sendAcyclic p b).mode = s.mode := by
  simp [State.sendAcyclic]
@[simp] theorem sendAcyclic_table (s : State) (p : Port) (b : BufId) :
    (s.sendAcyclic p b).table = s.table := by
  simp [State.sendAcyclic]
@[simp] theorem sendAcyclic_gates (s : State) (p : Port) (b : BufId) :
    (s.sendAcyclic p b).gates = s.gates := by
  simp [State.sendAcyclic]
@[simp] theorem sendAcyclic_groupLocks (s : State) (p : Port) (b : BufId) :
    (s.sendAcyclic p b).groupLocks = s.groupLocks := by
  simp [State.sendAcyclic]
@[simp] theorem sendAcyclic_configLock (s : State) (p : Port) (b : BufId) :
    (s.sendAcyclic p b).configLock = s.configLock := by
  simp [State.sendAcyclic]
@[simp] theorem sendAcyclic_mgmtId (s : State) (p : Port) (b : BufId) :
    (s.sendAcyclic p b).mgmtId = s.mgmtId := by
  simp [State.sendAcyclic]
@[simp] theorem sendAcyclic_lapseList (s : State) (p : Port) (b : BufId) :
    (s.sendAcyclic p b).lapseList = s.lapseList := by
  simp [State.sendAcyclic]
@[simp] theorem sendAcyclic_lapseOverflow (s : State) (p : Port) (b : BufId) :
    (s.sendAcyclic p b).lapseOverflow = s.lapseOverflow := by
  simp [State.sendAcyclic]
@[simp] theorem sendAcyclic_contents (s : State) (p : Port) (b : BufId) :
    (s.sendAcyclic p b).contents = s.contents := by
  simp [State.sendAcyclic]
@[simp] theorem sendAcyclic_divert (s : State) (p : Port) (b : BufId) :
    (s.sendAcyclic p b).divert = s.divert := by
  simp [State.sendAcyclic]
@[simp] theorem sendAcyclic_responses (s : State) (p : Port) (b : BufId) :
    (s.sendAcyclic p b).responses = s.responses := by
  simp [State.sendAcyclic]
@[simp] theorem sendAcyclic_alertSlot (s : State) (p : Port) (b : BufId) :
    (s.sendAcyclic p b).alertSlot = s.alertSlot := by
  simp [State.sendAcyclic]
@[simp] theorem sendAcyclic_mgmt (s : State) (p : Port) (b : BufId) :
    (s.sendAcyclic p b).mgmt = s.mgmt := by
  simp [State.sendAcyclic]
@[simp] theorem sendAcyclic_causes (s : State) (p : Port) (b : BufId) :
    (s.sendAcyclic p b).causes = s.causes := by
  simp [State.sendAcyclic]
@[simp] theorem sendAcyclic_enables (s : State) (p : Port) (b : BufId) :
    (s.sendAcyclic p b).enables = s.enables := by
  simp [State.sendAcyclic]
@[simp] theorem sendAcyclic_alertNumber (s : State) (p : Port) (b : BufId) :
    (s.sendAcyclic p b).alertNumber = s.alertNumber := by
  simp [State.sendAcyclic]
@[simp] theorem sendAcyclic_pending (s : State) (p : Port) (b : BufId) :
    (s.sendAcyclic p b).pending = s.pending := by
  simp [State.sendAcyclic]
@[simp] theorem sendAcyclic_running (s : State) (p : Port) (b : BufId) :
    (s.sendAcyclic p b).running = s.running := by
  simp [State.running]
@[simp] theorem sendAcyclic_entry (s : State) (p : Port) (b : BufId) (i' : Byte) :
    (s.sendAcyclic p b).entry i' = s.entry i' := by
  simp [State.entry]
@[simp] theorem sendAcyclic_gateOf (s : State) (p : Port) (b : BufId) (e' : Entry) :
    (s.sendAcyclic p b).gateOf e' = s.gateOf e' := by
  simp [State.gateOf]
@[simp] theorem sendAcyclic_lockedEntry (s : State) (p : Port) (b : BufId) (e' : Entry) :
    (s.sendAcyclic p b).lockedEntry e' = s.lockedEntry e' := by
  simp [State.lockedEntry]
@[simp] theorem sendAcyclic_hasPlace (s : State) (p : Port) (b : BufId) :
    (s.sendAcyclic p b).hasPlace = s.hasPlace := by
  simp [State.hasPlace]
@[simp] theorem sendAcyclic_pendingCauses (s : State) (p : Port) (b : BufId) :
    (s.sendAcyclic p b).pendingCauses = s.pendingCauses := by
  simp [State.pendingCauses]

/-! ### A frame sent by its class -/
@[simp] theorem sendByClass_resetLow (s : State) (p : Port) (c : StreamClass) (b : BufId) :
    (s.sendByClass p c b).resetLow = s.resetLow := by
  unfold State.sendByClass; split <;> simp
@[simp] theorem sendByClass_powered (s : State) (p : Port) (c : StreamClass) (b : BufId) :
    (s.sendByClass p c b).powered = s.powered := by
  unfold State.sendByClass; split <;> simp
@[simp] theorem sendByClass_freezeLow (s : State) (p : Port) (c : StreamClass) (b : BufId) :
    (s.sendByClass p c b).freezeLow = s.freezeLow := by
  unfold State.sendByClass; split <;> simp
@[simp] theorem sendByClass_mode (s : State) (p : Port) (c : StreamClass) (b : BufId) :
    (s.sendByClass p c b).mode = s.mode := by
  unfold State.sendByClass; split <;> simp
@[simp] theorem sendByClass_table (s : State) (p : Port) (c : StreamClass) (b : BufId) :
    (s.sendByClass p c b).table = s.table := by
  unfold State.sendByClass; split <;> simp
@[simp] theorem sendByClass_gates (s : State) (p : Port) (c : StreamClass) (b : BufId) :
    (s.sendByClass p c b).gates = s.gates := by
  unfold State.sendByClass; split <;> simp
@[simp] theorem sendByClass_groupLocks (s : State) (p : Port) (c : StreamClass) (b : BufId) :
    (s.sendByClass p c b).groupLocks = s.groupLocks := by
  unfold State.sendByClass; split <;> simp
@[simp] theorem sendByClass_configLock (s : State) (p : Port) (c : StreamClass) (b : BufId) :
    (s.sendByClass p c b).configLock = s.configLock := by
  unfold State.sendByClass; split <;> simp
@[simp] theorem sendByClass_mgmtId (s : State) (p : Port) (c : StreamClass) (b : BufId) :
    (s.sendByClass p c b).mgmtId = s.mgmtId := by
  unfold State.sendByClass; split <;> simp
@[simp] theorem sendByClass_lapseList (s : State) (p : Port) (c : StreamClass) (b : BufId) :
    (s.sendByClass p c b).lapseList = s.lapseList := by
  unfold State.sendByClass; split <;> simp
@[simp] theorem sendByClass_lapseOverflow (s : State) (p : Port) (c : StreamClass) (b : BufId) :
    (s.sendByClass p c b).lapseOverflow = s.lapseOverflow := by
  unfold State.sendByClass; split <;> simp
@[simp] theorem sendByClass_contents (s : State) (p : Port) (c : StreamClass) (b : BufId) :
    (s.sendByClass p c b).contents = s.contents := by
  unfold State.sendByClass; split <;> simp
@[simp] theorem sendByClass_divert (s : State) (p : Port) (c : StreamClass) (b : BufId) :
    (s.sendByClass p c b).divert = s.divert := by
  unfold State.sendByClass; split <;> simp
@[simp] theorem sendByClass_responses (s : State) (p : Port) (c : StreamClass) (b : BufId) :
    (s.sendByClass p c b).responses = s.responses := by
  unfold State.sendByClass; split <;> simp
@[simp] theorem sendByClass_alertSlot (s : State) (p : Port) (c : StreamClass) (b : BufId) :
    (s.sendByClass p c b).alertSlot = s.alertSlot := by
  unfold State.sendByClass; split <;> simp
@[simp] theorem sendByClass_mgmt (s : State) (p : Port) (c : StreamClass) (b : BufId) :
    (s.sendByClass p c b).mgmt = s.mgmt := by
  unfold State.sendByClass; split <;> simp
@[simp] theorem sendByClass_causes (s : State) (p : Port) (c : StreamClass) (b : BufId) :
    (s.sendByClass p c b).causes = s.causes := by
  unfold State.sendByClass; split <;> simp
@[simp] theorem sendByClass_enables (s : State) (p : Port) (c : StreamClass) (b : BufId) :
    (s.sendByClass p c b).enables = s.enables := by
  unfold State.sendByClass; split <;> simp
@[simp] theorem sendByClass_alertNumber (s : State) (p : Port) (c : StreamClass) (b : BufId) :
    (s.sendByClass p c b).alertNumber = s.alertNumber := by
  unfold State.sendByClass; split <;> simp
@[simp] theorem sendByClass_pending (s : State) (p : Port) (c : StreamClass) (b : BufId) :
    (s.sendByClass p c b).pending = s.pending := by
  unfold State.sendByClass; split <;> simp
@[simp] theorem sendByClass_running (s : State) (p : Port) (c : StreamClass) (b : BufId) :
    (s.sendByClass p c b).running = s.running := by
  simp [State.running]
@[simp] theorem sendByClass_entry (s : State) (p : Port) (c : StreamClass) (b : BufId) (i' : Byte) :
    (s.sendByClass p c b).entry i' = s.entry i' := by
  simp [State.entry]
@[simp] theorem sendByClass_gateOf (s : State) (p : Port) (c : StreamClass) (b : BufId) (e' : Entry) :
    (s.sendByClass p c b).gateOf e' = s.gateOf e' := by
  simp [State.gateOf]
@[simp] theorem sendByClass_lockedEntry (s : State) (p : Port) (c : StreamClass) (b : BufId) (e' : Entry) :
    (s.sendByClass p c b).lockedEntry e' = s.lockedEntry e' := by
  simp [State.lockedEntry]
@[simp] theorem sendByClass_hasPlace (s : State) (p : Port) (c : StreamClass) (b : BufId) :
    (s.sendByClass p c b).hasPlace = s.hasPlace := by
  simp [State.hasPlace]
@[simp] theorem sendByClass_pendingCauses (s : State) (p : Port) (c : StreamClass) (b : BufId) :
    (s.sendByClass p c b).pendingCauses = s.pendingCauses := by
  simp [State.pendingCauses]

/-! ### A claim with the alert unit's comparison -/
@[simp] theorem alerting_resetLow (s : State) (claim : State → State) :
    (s.alerting claim).resetLow = (claim s).resetLow := by
  unfold State.alerting; split <;> simp
@[simp] theorem alerting_powered (s : State) (claim : State → State) :
    (s.alerting claim).powered = (claim s).powered := by
  unfold State.alerting; split <;> simp
@[simp] theorem alerting_freezeLow (s : State) (claim : State → State) :
    (s.alerting claim).freezeLow = (claim s).freezeLow := by
  unfold State.alerting; split <;> simp
@[simp] theorem alerting_mode (s : State) (claim : State → State) :
    (s.alerting claim).mode = (claim s).mode := by
  unfold State.alerting; split <;> simp
@[simp] theorem alerting_portN (s : State) (claim : State → State) :
    (s.alerting claim).portN = (claim s).portN := by
  unfold State.alerting; split <;> simp
@[simp] theorem alerting_portS (s : State) (claim : State → State) :
    (s.alerting claim).portS = (claim s).portS := by
  unfold State.alerting; split <;> simp
@[simp] theorem alerting_table (s : State) (claim : State → State) :
    (s.alerting claim).table = (claim s).table := by
  unfold State.alerting; split <;> simp
@[simp] theorem alerting_gates (s : State) (claim : State → State) :
    (s.alerting claim).gates = (claim s).gates := by
  unfold State.alerting; split <;> simp
@[simp] theorem alerting_groupLocks (s : State) (claim : State → State) :
    (s.alerting claim).groupLocks = (claim s).groupLocks := by
  unfold State.alerting; split <;> simp
@[simp] theorem alerting_configLock (s : State) (claim : State → State) :
    (s.alerting claim).configLock = (claim s).configLock := by
  unfold State.alerting; split <;> simp
@[simp] theorem alerting_mgmtId (s : State) (claim : State → State) :
    (s.alerting claim).mgmtId = (claim s).mgmtId := by
  unfold State.alerting; split <;> simp
@[simp] theorem alerting_lapseList (s : State) (claim : State → State) :
    (s.alerting claim).lapseList = (claim s).lapseList := by
  unfold State.alerting; split <;> simp
@[simp] theorem alerting_lapseOverflow (s : State) (claim : State → State) :
    (s.alerting claim).lapseOverflow = (claim s).lapseOverflow := by
  unfold State.alerting; split <;> simp
@[simp] theorem alerting_free (s : State) (claim : State → State) :
    (s.alerting claim).free = (claim s).free := by
  unfold State.alerting; split <;> simp
@[simp] theorem alerting_contents (s : State) (claim : State → State) :
    (s.alerting claim).contents = (claim s).contents := by
  unfold State.alerting; split <;> simp
@[simp] theorem alerting_divert (s : State) (claim : State → State) :
    (s.alerting claim).divert = (claim s).divert := by
  unfold State.alerting; split <;> simp
@[simp] theorem alerting_responses (s : State) (claim : State → State) :
    (s.alerting claim).responses = (claim s).responses := by
  unfold State.alerting; split <;> simp
@[simp] theorem alerting_mgmt (s : State) (claim : State → State) :
    (s.alerting claim).mgmt = (claim s).mgmt := by
  unfold State.alerting; split <;> simp
@[simp] theorem alerting_causes (s : State) (claim : State → State) :
    (s.alerting claim).causes = (claim s).causes := by
  unfold State.alerting; split <;> simp
@[simp] theorem alerting_enables (s : State) (claim : State → State) :
    (s.alerting claim).enables = (claim s).enables := by
  unfold State.alerting; split <;> simp
@[simp] theorem alerting_pending (s : State) (claim : State → State) :
    (s.alerting claim).pending = (claim s).pending := by
  unfold State.alerting; split <;> simp
@[simp] theorem alerting_port (s : State) (claim : State → State) (p : Port) :
    (s.alerting claim).port p = (claim s).port p := by
  cases p <;> simp [State.port]
@[simp] theorem alerting_entry (s : State) (claim : State → State) (i : Byte) :
    (s.alerting claim).entry i = (claim s).entry i := by
  simp [State.entry]

end Sys2Proof.Machine
end

