-- ==== Sys2Proof/Laws/Table.lean ====
section
/-! SUPPORT. The stream table: reading an entry after a write, after a change of every entry, and what the
lookup of a key finds. -/

namespace Sys2Proof.Machine

@[simp] theorem entry_setEntry_self (s : State) (i : Byte) (e : Option Entry) :
    (s.setEntry i e).entry i = e := by
  simp [State.entry, State.setEntry]

theorem entry_setEntry_ne (s : State) (i j : Byte) (e : Option Entry) (h : j ≠ i) :
    (s.setEntry i e).entry j = s.entry j := by
  have hn : i.toNat ≠ j.toNat := fun h' => h (BitVec.eq_of_toNat_eq h'.symm)
  simp [State.entry, State.setEntry, hn]

theorem entry_setEntry (s : State) (i j : Byte) (e : Option Entry) :
    (s.setEntry i e).entry j = if j = i then e else s.entry j := by
  split
  · subst j; simp
  · exact entry_setEntry_ne s i j e ‹_›

@[simp] theorem entry_modEntry_self (s : State) (i : Byte) (f : Entry → Entry) :
    (s.modEntry i f).entry i = (s.entry i).map f := by
  simp [State.modEntry]

theorem entry_modEntry_ne (s : State) (i j : Byte) (f : Entry → Entry) (h : j ≠ i) :
    (s.modEntry i f).entry j = s.entry j := by
  simp [State.modEntry, entry_setEntry_ne _ _ _ _ h]

/-- Two writes of one entry are the last one. -/
@[simp] theorem setEntry_setEntry (s : State) (i : Byte) (e f : Option Entry) :
    (s.setEntry i e).setEntry i f = s.setEntry i f := by
  simp [State.setEntry, Vector.set_set]

/-- A change of a written entry is a write of it. -/
theorem modEntry_eq (s : State) (i : Byte) (f : Entry → Entry) (e : Entry)
    (h : s.entry i = some e) : s.modEntry i f = s.setEntry i (some (f e)) := by
  simp [State.modEntry, h]

/-- Writing an entry as it stands changes nothing. -/
@[simp] theorem setEntry_entry (s : State) (i : Byte) : s.setEntry i (s.entry i) = s := by
  simp [State.setEntry, State.entry]

theorem mapTable_get (t : Vector (Option Entry) 256) (f : Option Entry → Option Entry) (i : Nat)
    (h : i < 256) : (mapTable t f)[i] = f t[i] := by
  simp [mapTable]

@[simp] theorem entry_disarm (s : State) (pick : Entry → Bool) (i : Byte) :
    (s.disarm pick).entry i =
      (s.entry i).map fun e => if pick e then e.disarm else e := by
  simp only [State.entry, State.disarm, mapTable_get]

/-- Every entry index is among `allIndices`. -/
theorem mem_allIndices (i : Byte) : i ∈ allIndices := by
  simp only [allIndices, List.mem_map, List.mem_range]
  exact ⟨i.toNat, i.isLt, by simp⟩

theorem holdsKey_iff (s : State) (p : Port) (sid : StreamId) (i : Byte) :
    s.holdsKey p sid i = true ↔
      ∃ e, s.entry i = some e ∧ e.keyPort = p ∧ e.streamId = sid := by
  unfold State.holdsKey
  cases s.entry i <;> simp

/-- A lookup that finds an entry finds a holder of the key (R20). -/
theorem holdsKey_of_lookup (s : State) (p : Port) (sid : StreamId) (i : Byte)
    (h : s.lookup p sid = some i) :
    ∃ e, s.entry i = some e ∧ e.keyPort = p ∧ e.streamId = sid :=
  (holdsKey_iff s p sid i).1 (by simpa using List.find?_some h)

/-- The lookup finds nothing exactly when no entry holds the key (R20). -/
theorem lookup_eq_none_iff (s : State) (p : Port) (sid : StreamId) :
    s.lookup p sid = none ↔
      ∀ i e, s.entry i = some e → ¬(e.keyPort = p ∧ e.streamId = sid) := by
  simp only [State.lookup, List.find?_eq_none]
  constructor
  · intro h i e he hk
    exact h i (mem_allIndices i) ((holdsKey_iff s p sid i).2 ⟨e, he, hk⟩)
  · intro h i _ hk
    obtain ⟨e, he, hk'⟩ := (holdsKey_iff s p sid i).1 hk
    exact h i e he hk'

theorem keyHeldElsewhere_iff (s : State) (p : Port) (sid : StreamId) (i : Byte) :
    s.keyHeldElsewhere p sid i = true ↔
      ∃ j e, j ≠ i ∧ s.entry j = some e ∧ e.keyPort = p ∧ e.streamId = sid := by
  simp only [State.keyHeldElsewhere, List.any_eq_true, Bool.and_eq_true, bne_iff_ne,
    holdsKey_iff]
  constructor
  · rintro ⟨j, _, hj, e, he, hk⟩
    exact ⟨j, e, hj, he, hk⟩
  · rintro ⟨j, e, hj, he, hk⟩
    exact ⟨j, mem_allIndices j, hj, e, he, hk⟩

end Sys2Proof.Machine
end

