-- ==== Sys2Proof/Laws/Alert.lean ====
section
/-! SUPPORT. Claims that the alert unit compares: such a claim moves nothing beyond its own change but the
alert slot and the alert number; and what the shared operations on lapses and counting entries do. -/

namespace Sys2Proof.Machine

/-- The alert unit's comparison moves the alert slot and the alert number alone (R193). -/
theorem alerting_frame (s : State) (claim : State → State) :
    s.alerting claim =
      { claim s with
        alertSlot := (s.alerting claim).alertSlot
        alertNumber := (s.alerting claim).alertNumber } := by
  unfold State.alerting State.placeAlert
  split
  · split <;> rfl
  · rfl

/-- An ALERT goes into an empty slot (R193). -/
theorem placeAlert_of_empty (s : State) (h : s.alertSlot = none) :
    s.placeAlert =
      { s with
        alertSlot :=
          some ⟨s.mgmtId, s.alertNumber + 1, s.pendingCauses.highest, s.pendingCauses⟩
        alertNumber := s.alertNumber + 1 } := by
  simp [State.placeAlert, h]

/-- A slot that holds an ALERT keeps it (R193). -/
theorem placeAlert_of_full (s : State) (a : Alert) (h : s.alertSlot = some a) : s.placeAlert = s := by
  simp [State.placeAlert, h]

/-- A compared claim leaves the alert slot and number as R193 gives them, counted from any earlier state
that differs in nothing the alert unit reads. -/
theorem alerted_alerting (s w : State) (claim : State → State)
    (hactive : w.anyActive = s.anyActive) (hslot : (claim w).alertSlot = s.alertSlot)
    (hnumber : (claim w).alertNumber = s.alertNumber) (hid : (claim w).mgmtId = s.mgmtId) :
    s.Alerted (w.alerting claim) := by
  generalize hc : claim w = c at *
  have hs : w.alerting claim = if !s.anyActive && c.anyActive then c.placeAlert else c := by
    rw [State.alerting, hactive, hc]
  rw [hs]
  unfold State.Alerted
  cases ha : s.anyActive <;> cases hca : c.anyActive
  · simp [hca, hslot, hnumber]
  · cases hal : s.alertSlot with
    | none =>
      rw [hal] at hslot
      have hp : c.placeAlert.anyActive = true := by rw [placeAlert_of_empty c hslot]; exact hca
      have hq : c.placeAlert.pendingCauses = c.pendingCauses := by
        rw [placeAlert_of_empty c hslot]; rfl
      simp only [Bool.not_false, Bool.true_and, if_true, hp, hq, and_self]
      rw [placeAlert_of_empty c hslot, ← hnumber, ← hid]
      exact ⟨rfl, rfl⟩
    | some x =>
      rw [hal] at hslot
      simp [placeAlert_of_full c x hslot, hslot, hnumber]
  all_goals simp [hslot, hnumber]

/-- A claim that changes nothing the alert unit reads raises no ALERT. -/
theorem alerted_of_same (s t : State) (hactive : t.anyActive = s.anyActive)
    (hslot : t.alertSlot = s.alertSlot) (hnumber : t.alertNumber = s.alertNumber) : s.Alerted t := by
  unfold State.Alerted
  rw [hactive]
  rcases h : s.anyActive <;> simp_all

/-- With no cause enabled that a claim sets, it raises no ALERT. -/
theorem alerting_of_not_active (s : State) (claim : State → State)
    (h : (claim s).anyActive = false) : s.alerting claim = claim s := by
  simp [State.alerting, h]

/-- An index joins the lapse list, or the full list's flag is set; only the alert slot and number may move
besides (R106, R114). -/
theorem enlist_frame (s : State) (i : Byte) :
    s.enlist i =
      { s with
        lapseList := if s.lapseList.length < 32 then s.lapseList ++ [i] else s.lapseList
        lapseOverflow := if s.lapseList.length < 32 then s.lapseOverflow else true
        alertSlot := (s.enlist i).alertSlot
        alertNumber := (s.enlist i).alertNumber } := by
  unfold State.enlist State.alerting State.placeAlert
  by_cases hl : s.lapseList.length < 32 <;> simp only [Config.lapseCapacity, hl, if_true, if_false]
  all_goals
    split
    · split <;> rfl
    · rfl

/-- FROZEN set moves the held causes, the alert slot and the alert number alone (R200). -/
theorem setFrozen_frame (s : State) :
    s.setFrozen =
      { s with
        causes := { s.causes with frozen := true }
        alertSlot := s.setFrozen.alertSlot
        alertNumber := s.setFrozen.alertNumber } :=
  alerting_frame s fun s => { s with causes := { s.causes with frozen := true } }

/-- At a counting entry its timer's claim runs (R63). -/
theorem atCounting_of_counts (s : State) (i : Byte) (e : Entry) (t : Tracker)
    (f : Entry → Tracker → State) (h : s.Counts i e t) : s.atCounting i f = f e t := by
  obtain ⟨_, he, ht, hs, hm, hg⟩ := h
  simp [State.atCounting, he, ht, State.counting, hs, hm, hg]

/-- A lapse's entry, said field by field (R101, R104, R106). -/
theorem entry_lapsed (e : Entry) (t : Tracker) (lost : Bool) :
    e.lapsed t lost =
      { e with
        state := if t.misses + 1 = t.missLimit then .lapsed else .overdue
        tracker := some { t with misses := t.misses + 1, elapsed := 0 }
        counters :=
          { e.counters with
            misses := satInc e.counters.misses
            markersLost := if lost then satInc e.counters.markersLost else e.counters.markersLost
            lapses :=
              if t.misses + 1 = t.missLimit then satInc e.counters.lapses
              else e.counters.lapses } } := by
  by_cases hl : t.misses + 1 = t.missLimit <;> cases lost <;>
    simp [Entry.lapsed, hl, Entry.count, EntryCounters.inc]

end Sys2Proof.Machine
end

