-- ==== Sys2Proof/Laws/Manage.lean ====
section
/-! SUPPORT. The management unit: what placing a response, finishing a slot command, moving up and admitting
a request each do, said once. -/

namespace Sys2Proof.Machine

theorem live_of_running (s : State) (f : State → State) (h : s.running = true) : s.live f = f s := by
  simp [State.live, h]

theorem live_of_not_running (s : State) (f : State → State) (h : s.running = false) :
    s.live f = s := by
  simp [State.live, h]

theorem hasPlace_iff (s : State) : s.hasPlace = true ↔ s.responses.length < 8 := by
  unfold State.hasPlace
  exact decide_eq_true_iff

/-- A full response queue has no place. -/
theorem hasPlace_of_full (s : State) (h : 8 ≤ s.responses.length) : s.hasPlace = false := by
  rw [Bool.eq_false_iff, ne_eq, hasPlace_iff]
  omega

/-- A response at arrival with a free place joins the queue (R154). -/
theorem respondNow_of_place (s : State) (r : Response) (h : s.responses.length < 8) :
    s.respondNow r = { s with responses := s.responses ++ [r] } := by
  simp [State.respondNow, (hasPlace_iff s).2 h]

/-- A response at arrival with 8 queued is counted unanswered instead (R154). -/
theorem respondNow_of_full (s : State) (r : Response) (h : 8 ≤ s.responses.length) :
    s.respondNow r = s.unanswered := by
  simp [State.respondNow, hasPlace_of_full s h]

/-- A finished slot command with a free place empties the executing slot (R153). -/
theorem finish_of_place (s : State) (r : Response) (h : s.responses.length < 8) :
    s.finish r =
      { s with
        responses := s.responses ++ [r]
        mgmt := { s.mgmt with executing := none } } := by
  simp [State.finish, (hasPlace_iff s).2 h, State.modMgmt]

/-- A finished slot command with 8 responses queued waits with its response built (R153). -/
theorem finish_of_full (s : State) (r : Response) (h : 8 ≤ s.responses.length) :
    s.finish r = { s with mgmt := { s.mgmt with executing := some (.built r) } } := by
  simp [State.finish, hasPlace_of_full s h, State.modMgmt]

/-- Nothing moves up from an empty waiting slot (R152). -/
theorem moveUp_of_none (s : State) (h : s.mgmt.waiting = none) : s.moveUp = s := by
  unfold State.moveUp
  split
  · simp_all
  · rfl

/-- Nothing moves up behind an occupied executing slot (R152). -/
theorem moveUp_of_executing (s : State) (h : s.mgmt.executing ≠ none) : s.moveUp = s := by
  unfold State.moveUp
  split
  · simp_all
  · rfl

/-- A built response's completion, said once: it waits, or it is placed and the waiting request moves up
(R152, R153). -/
theorem complete_eq_completed (s : State) (r : Response) : s.complete r = s.completed r := by
  unfold State.complete State.completed
  by_cases h : 8 ≤ s.responses.length
  · rw [finish_of_full s r h, moveUp_of_executing _ (by simp)]
    simp [h]
  · rw [finish_of_place s r (by omega)]
    cases hw : s.mgmt.waiting with
    | none =>
      rw [moveUp_of_none _ (by simpa using hw)]
      simp only [h, if_false]
      rw [← hw]
    | some req => simp [h, State.moveUp, hw, State.modMgmt]

/-- A slot command that finishes with both slots empty and a free place only adds its response. -/
theorem finish_moveUp_idle (s : State) (r : Response) (he : s.mgmt.executing = none)
    (hw : s.mgmt.waiting = none) (hp : s.responses.length < 8) :
    (s.finish r).moveUp = { s with responses := s.responses ++ [r] } := by
  rw [finish_of_place s r hp, moveUp_of_none _ (by simpa using hw)]
  have : { s.mgmt with executing := none } = s.mgmt := by
    cases hm : s.mgmt; simp_all
  simp [this]

/-- A slot command at an idle management unit: its effect, and its response behind the others, when the
effect leaves the slots and the response queue alone (R151 to R153). -/
theorem takeCommand_slot (s u : State) (tag : Byte) (c : Command) (st : Status) (d : List Byte)
    (hs : isSlotCommand c = true) (hb : ∀ a n, c ≠ .bulkLoad a n)
    (he : s.mgmt.executing = none) (hheld : s.mgmt.heldEvent = true → whileHeld c = true)
    (hr : runSlot c s = ⟨st, d, u⟩) (hue : u.mgmt.executing = none) (huw : u.mgmt.waiting = none)
    (hur : u.responses = s.responses) (hp : s.responses.length < 8) :
    s.takeCommand tag c =
      { u with responses := u.responses ++ [⟨s.mgmtId, tag, c.code, st, 0, d⟩] } := by
  have hx : s.takeCommand tag c = s.admitSlot ⟨s.mgmtId, tag, c⟩ := by
    cases c <;> simp_all [State.takeCommand, State.takeRequest, isSlotCommand]
  have hexec : s.execute ⟨s.mgmtId, tag, c⟩ = u.finish ⟨s.mgmtId, tag, c.code, st, 0, d⟩ := by
    cases c <;> simp_all [State.execute, Request.reply]
  rw [hx]
  unfold State.admitSlot
  have hno : ¬(s.mgmt.heldEvent = true ∧ ¬whileHeld c = true) := fun h => h.2 (hheld h.1)
  simp only [hno, if_false, he, hexec]
  exact finish_moveUp_idle u _ hue huw (by rw [hur]; exact hp)

/-- A response at arrival, as the responses placed so far see it (R154). -/
theorem respondNow_placed (s : State) (rs : List Response) (m : Mgmt) (r : Response) :
    ∃ c : Counter,
      ({ s with responses := s.placedAtOnce rs, mgmt := m } : State).respondNow r =
        { s with
          responses := s.placedAtOnce (rs ++ [r])
          mgmt := { m with unanswered := c } } := by
  rcases Nat.lt_or_ge (s.responses.length + rs.length) 8 with h | h
  · refine ⟨m.unanswered, ?_⟩
    have hp : s.placedAtOnce rs = s.responses ++ rs := by
      rw [State.placedAtOnce, List.take_of_length_le (by omega)]
    have hq : s.placedAtOnce (rs ++ [r]) = s.responses ++ rs ++ [r] := by
      rw [State.placedAtOnce, List.take_of_length_le (by simp; omega), List.append_assoc]
    rw [respondNow_of_place _ _ (by simpa [hp] using h), hp, hq]
  · refine ⟨satInc m.unanswered, ?_⟩
    have hq : s.placedAtOnce (rs ++ [r]) = s.placedAtOnce rs := by
      rw [State.placedAtOnce, List.take_append_of_le_length (by omega), State.placedAtOnce]
    have hf : 8 ≤ (s.placedAtOnce rs).length := by
      simp only [State.placedAtOnce, List.length_append, List.length_take]; omega
    rw [respondNow_of_full _ _ hf, hq]; rfl

theorem placedAtOnce_nil (s : State) : s.placedAtOnce [] = s.responses := by
  simp [State.placedAtOnce]

/-- What answering the slots ABORTED leaves (R160 step 1). -/
theorem abortSlots_answers (s : State) :
    ∃ m : Mgmt,
      s.abortSlots = { s with responses := s.placedAtOnce s.abortedSlots, mgmt := m } ∧
        m.executing = none ∧ m.waiting = none ∧ m.escTime = s.mgmt.escTime ∧
        m.escalated = s.mgmt.escalated ∧ m.linkEvents = s.mgmt.linkEvents := by
  have hr : ∀ (m : Mgmt) (r : Response), ∃ c : Counter,
      ({ s with mgmt := m } : State).respondNow r =
        { s with responses := s.placedAtOnce [r], mgmt := { m with unanswered := c } } := by
    intro m r
    simpa only [placedAtOnce_nil, List.nil_append] using respondNow_placed s [] m r
  obtain ⟨l, m, hd, he, hw, h1, h2, h3, hl⟩ : ∃ (l : List Response) (m : Mgmt),
      s.dropExecuting = { s with responses := s.placedAtOnce l, mgmt := m } ∧
        m.executing = none ∧ m.waiting = s.mgmt.waiting ∧ m.escTime = s.mgmt.escTime ∧
        m.escalated = s.mgmt.escalated ∧ m.linkEvents = s.mgmt.linkEvents ∧
        s.abortedSlots = l ++ s.abortedWaiting := by
    rcases hx : s.mgmt.executing with _ | (bulk | r)
    · exact ⟨[], s.mgmt, by simp [State.dropExecuting, hx, placedAtOnce_nil], hx, rfl, rfl, rfl, rfl,
        by simp [State.abortedSlots, hx]⟩
    · obtain ⟨c, hc⟩ := hr
        { s.mgmt with
          remaining := 0
          gapTimer := false
          lastLoad := some ⟨.aborted, s.mgmt.step, s.mgmt.nextIndex⟩
          executing := none } (bulk.reply .aborted s.mgmt.step [])
      exact ⟨_, _, Eq.trans (by rw [State.dropExecuting, hx]; rfl) hc, rfl, rfl, rfl, rfl, rfl,
        by simp [State.abortedSlots, hx]⟩
    · obtain ⟨c, hc⟩ := hr { s.mgmt with executing := none }
        { r with status := .aborted, data := [] }
      exact ⟨_, _, Eq.trans (by rw [State.dropExecuting, hx]; rfl) hc, rfl, rfl, rfl, rfl, rfl,
        by simp [State.abortedSlots, hx]⟩
  have hu : s.abortSlots =
      ({ s with responses := s.placedAtOnce l, mgmt := m } : State).abortWaiting := by
    rw [State.abortSlots, hd]
  rw [hu, hl]
  rcases hq : s.mgmt.waiting with _ | req
  · refine ⟨m, ?_, he, hw.trans hq, h1, h2, h3⟩
    simp [State.abortWaiting, hw, hq, State.abortedWaiting]
  · obtain ⟨c, hc⟩ := respondNow_placed s l { m with waiting := none } (req.reply .aborted 0 [])
    refine ⟨{ m with waiting := none, unanswered := c }, ?_, he, rfl, h1, h2, h3⟩
    rw [State.abortedWaiting, hq]
    refine Eq.trans ?_ hc
    simp only [State.abortWaiting, hw, hq]
    rfl

end Sys2Proof.Machine
end

