-- ==== Sys2Proof/Laws/Mode.lean ====
section
/-! SUPPORT. What a change of the run mode and a reset move: one frame lemma per operation. -/

namespace Sys2Proof.Machine

/-- Leaving RUN moves the table alone (R30). -/
theorem leaveRun_frame (s : State) (m : RunMode) :
    s.leaveRun m = { s with table := (s.leaveRun m).table } := by
  simp only [State.leaveRun, State.disarm]
  split <;> rfl

/-- An abandoned transmission moves the ports and the pool alone (R129). -/
theorem abandonTraffic_moves (s : State) (p : Port) :
    ∃ n t f, s.abandonTraffic p = { s with portN := n, portS := t, free := f } := by
  unfold State.abandonTraffic
  cases p <;> split <;> exact ⟨_, _, _, rfl⟩

/-- A flush moves the ports and the pool alone (R131). -/
theorem flushQueues_moves (s : State) (p : Port) :
    ∃ n t f, s.flushQueues p = { s with portN := n, portS := t, free := f } := by
  cases p <;> exact ⟨_, _, _, rfl⟩

/-- Entering HALTED moves the ports and the pool alone (R133). -/
theorem enterHalted_moves (s : State) :
    ∃ n t f, s.enterHalted = { s with portN := n, portS := t, free := f } := by
  unfold State.enterHalted
  obtain ⟨n1, t1, f1, h1⟩ := abandonTraffic_moves s .N
  rw [h1]
  obtain ⟨n2, t2, f2, h2⟩ :=
    abandonTraffic_moves { s with portN := n1, portS := t1, free := f1 } .S
  rw [h2]
  obtain ⟨n3, t3, f3, h3⟩ := flushQueues_moves { s with portN := n2, portS := t2, free := f2 } .N
  rw [h3]
  exact flushQueues_moves { s with portN := n3, portS := t3, free := f3 } .S

/-- The transmitters and queues at a change of mode: entering HALTED, or nothing (R133). -/
theorem haltPath_of_enter (s : State) (m : RunMode) (hm : m.isHalted = true)
    (hs : s.mode.isHalted = false) : s.haltPath m = s.enterHalted := by
  simp [State.haltPath, hm, hs]

theorem haltPath_of_stay (s : State) (m : RunMode)
    (h : m.isHalted = false ∨ s.mode.isHalted = true) : s.haltPath m = s := by
  rcases h with h | h <;> simp [State.haltPath, h]

/-- A change of mode moves the entries as leaving RUN does (R30). -/
theorem entry_changeMode (s : State) (m : RunMode) (i : Byte) :
    (s.changeMode m).entry i = (s.leaveRun m).entry i := by
  simp only [State.changeMode, State.clearFrozen, State.haltPath]
  split_ifs <;> simp [State.entry]

/-- Warm reset is its blocks' resets, but for the mode, the causes and the ALERT of an asserted freeze input
(R202). -/
theorem warmReset_frame (s : State) :
    s.warmReset =
      { s.warmBlocks with
        mode := s.warmReset.mode
        causes := s.warmReset.causes
        alertSlot := s.warmReset.alertSlot
        alertNumber := s.warmReset.alertNumber } := by
  unfold State.warmReset State.readFreeze
  split
  · unfold State.setFrozen State.alerting State.placeAlert
    split
    · split <;> rfl
    · rfl
  · rfl

/-- Warm reset at each entry (R39). -/
theorem entry_warmReset (s : State) (i : Byte) :
    s.warmReset.entry i = warmEntry s.groupLocks (s.entry i) := by
  rw [warmReset_frame]
  simp only [State.entry, State.warmBlocks, mapTable_get]

/-- The warm reset reads of the management unit only what it keeps (R173). -/
theorem warmReset_mgmt (s : State) (m : Mgmt) (h1 : m.escTime = s.mgmt.escTime)
    (h2 : m.escalated = s.mgmt.escalated) (h3 : m.linkEvents = s.mgmt.linkEvents) :
    ({ s with mgmt := m } : State).warmReset = s.warmReset := by
  have hb : ({ s with mgmt := m } : State).warmBlocks = s.warmBlocks := by
    simp [State.warmBlocks, Mgmt.warm, h1, h2, h3]
  rw [State.warmReset, hb, State.warmReset]

end Sys2Proof.Machine
end

