-- ==== Sys2Proof/Laws/Operands.lean ====
section
/-! SUPPORT. The codes and ranges of request arguments: which value a byte spells, and which bytes spell
one. A proof about a request cites these in place of the code tables. -/

namespace Sys2Proof.Machine

theorem portOf_eq (x : Byte) (p : Port) : portOf x = some p ↔ portCode p = x := by
  cases p <;> revert x <;> decide

theorem portOf_portCode (p : Port) : portOf (portCode p) = some p := by cases p <;> rfl

theorem portOf_isSome (x : Byte) : (portOf x).isSome = true ↔ x.toNat ≤ 1 := by
  revert x; decide

theorem missPolicyOf_isSome (x : Byte) : (missPolicyOf x).isSome = true ↔ x.toNat ≤ 2 := by
  revert x; decide

theorem actionOf_eq (x : Byte) (a : Action) : actionOf x = some a ↔ actionCode a = x := by
  cases a <;> revert x <;> decide

theorem actionOf_isSome (x : Byte) : (actionOf x).isSome = true ↔ x.toNat ≤ 2 := by
  revert x; decide

theorem classOf_eq (x : Byte) (c : StreamClass) : classOf x = some c ↔ classCode c = x := by
  cases c <;> revert x <;> decide

theorem classOf_isSome (x : Byte) : (classOf x).isSome = true ↔ x.toNat ≤ 1 := by
  revert x; decide

theorem switchOf_eq (x : Byte) (b : Bool) :
    switchOf x = some b ↔ x.toNat ≤ 1 ∧ (b = true ↔ x = 1) := by
  cases b <;> revert x <;> decide

theorem switchOf_isSome (x : Byte) : (switchOf x).isSome = true ↔ x.toNat ≤ 1 := by
  revert x; decide

theorem cadenceOf_some (x : Byte) (m : TrackMode) :
    cadenceOf x = some (some m) ↔ trackModeCode m = x := by
  cases m <;> revert x <;> decide

theorem cadenceOf_off (x : Byte) : cadenceOf x = some none ↔ x = 0 := by
  revert x; decide

theorem cadenceOf_isSome (x : Byte) : (cadenceOf x).isSome = true ↔ x.toNat ≤ 2 := by
  revert x; decide

theorem trackModeOf_eq (x : Byte) (m : TrackMode) :
    trackModeOf x = some m ↔ trackModeCode m = x := by
  cases m <;> revert x <;> decide

theorem trackModeOf_isSome (x : Byte) : (trackModeOf x).isSome = true ↔ x = 1 ∨ x = 2 := by
  revert x; decide

theorem basisOf_eq (x : Byte) (b : Basis) : basisOf x = some b ↔ basisCode b = x := by
  cases b <;> revert x <;> decide

theorem basisOf_isSome (x : Byte) : (basisOf x).isSome = true ↔ x.toNat ≤ 1 := by
  revert x; decide

theorem gapPolicyOf_eq (x : Byte) (g : GapPolicy) :
    gapPolicyOf x = some g ↔ gapPolicyCode g = x := by
  cases g <;> revert x <;> decide

theorem gapPolicyOf_isSome (x : Byte) : (gapPolicyOf x).isSome = true ↔ x.toNat ≤ 1 := by
  revert x; decide

theorem gateOf_isSome (x : Byte) : (gateOf x).isSome = true ↔ x.toNat ≤ 1 := by
  revert x; decide

theorem modeOf_isSome (x : Byte) : (modeOf x).isSome = true ↔ x.toNat ≤ 2 := by
  revert x; decide

theorem rangeOf_eq (lo hi : Nat) (x : Byte) (n : Nat) :
    rangeOf lo hi x = some n ↔ (lo ≤ x.toNat ∧ x.toNat ≤ hi) ∧ x.toNat = n := by
  simp [rangeOf]

theorem rangeOf_isSome (lo hi : Nat) (x : Byte) :
    (rangeOf lo hi x).isSome = true ↔ lo ≤ x.toNat ∧ x.toNat ≤ hi := by
  simp [rangeOf]

theorem groupOf_eq (x : Byte) (g : Fin 8) : groupOf x = some g ↔ g.val = x.toNat := by
  simp only [groupOf, Option.dite_none_right_eq_some, Option.some.injEq]
  constructor
  · rintro ⟨h, rfl⟩
    rfl
  · intro h
    exact ⟨by omega, Fin.ext h.symm⟩

theorem groupOf_ofNat (g : Fin 8) : groupOf (BitVec.ofNat 8 g.val) = some g := by
  revert g; decide

theorem groupOf_isSome (x : Byte) : (groupOf x).isSome = true ↔ x.toNat ≤ 7 := by
  simp [groupOf]
  omega

theorem streamIdOf_eq (x : Word16) (sid : StreamId) :
    streamIdOf x = some sid ↔ sid.toNat = x.toNat := by
  have hs := sid.isLt
  simp only [streamIdOf, Option.ite_none_right_eq_some, Option.some.injEq]
  constructor
  · rintro ⟨h, rfl⟩
    simp
    omega
  · intro h
    refine ⟨by omega, BitVec.eq_of_toNat_eq ?_⟩
    simp
    omega

theorem streamIdOf_isSome (x : Word16) : (streamIdOf x).isSome = true ↔ x.toNat ≤ 4095 := by
  simp [streamIdOf]

/-- A stream id sent as two bytes names itself (R205). -/
theorem streamIdOf_setWidth (sid : StreamId) : streamIdOf (sid.setWidth 16) = some sid := by
  rw [streamIdOf_eq]
  have hs := sid.isLt
  simp
  omega

/-- A given field is tested, an ungiven one is not (R85, R205). -/
theorem givenField_isSome {α : Type} (given : Bool) (value : Option α) :
    (givenField given value).isSome = true ↔ (given = true → value.isSome = true) := by
  cases given <;> simp [givenField]

end Sys2Proof.Machine
end

