-- ==== Sys2Proof/Laws/PerInstr.lean ====
section
/-! SUPPORT. A fact of every command as it is sent, one lemma per constructor. -/

namespace Sys2Proof.Laws.Sent

open Sys2Proof.Machine

/-- A request's payload is at most 18 bytes, so that it fits one frame (R3, R206), and a command is
ill-formed only by BAD_COMMAND's payload. -/
def Statement (i : Instr) : Prop :=
  (∀ tag c, requestOf i = some (tag, c) → c.payload.length ≤ 18) ∧
    ((∀ tag payload, i ≠ .badCommand tag payload) → i.wellFormed = true)

/-- A request row whose payload is short. -/
theorem ofRequest {i : Instr} {tag : Byte} {c : Command} (h : requestOf i = some (tag, c))
    (hl : c.payload.length ≤ 18) (hw : i.wellFormed = true) : Statement i :=
  ⟨fun t d h' => by
    rw [h] at h'
    cases h'
    exact hl, fun _ => hw⟩

/-- A row that is no request. -/
theorem ofEvent {i : Instr} (h : requestOf i = none) (hw : i.wellFormed = true) : Statement i :=
  ⟨fun t d h' => by simp [h] at h', fun _ => hw⟩

theorem sof (p : Port) : Statement (.sof p) :=
  ofEvent rfl rfl

theorem dataByte (p : Port) (b : Byte) : Statement (.dataByte p b) :=
  ofEvent rfl rfl

theorem eof (p : Port) : Statement (.eof p) :=
  ofEvent rfl rfl

theorem abortReceived (p : Port) : Statement (.abortReceived p) :=
  ofEvent rfl rfl

theorem holdTimerExpiry (p : Port) : Statement (.holdTimerExpiry p) :=
  ofEvent rfl rfl

theorem lineReset (p : Port) : Statement (.lineReset p) :=
  ofEvent rfl rfl

theorem portDown (p : Port) : Statement (.portDown p) :=
  ofEvent rfl rfl

theorem portUp (p : Port) : Statement (.portUp p) :=
  ofEvent rfl rfl

theorem breakEnd : Statement .breakEnd :=
  ofEvent rfl rfl

theorem tickExpiry (index : Byte) : Statement (.tickExpiry index) :=
  ofEvent rfl rfl

theorem lapse (index : Byte) : Statement (.lapse index) :=
  ofEvent rfl rfl

theorem spacingEnd (p : Port) : Statement (.spacingEnd p) :=
  ofEvent rfl rfl

theorem transmissionStart (p : Port) : Statement (.transmissionStart p) :=
  ofEvent rfl rfl

theorem transmissionComplete (p : Port) : Statement (.transmissionComplete p) :=
  ofEvent rfl rfl

theorem commandCompletion : Statement .commandCompletion :=
  ofEvent rfl rfl

theorem badCommand (tag : Byte) (payload : List Byte) : Statement (.badCommand tag payload) :=
  ⟨fun _ _ h => (nomatch h), fun h => absurd rfl (h tag payload)⟩

theorem identify (tag : Byte) : Statement (.identify tag) :=
  ofRequest rfl (Nat.le_of_ble_eq_true rfl) rfl

theorem readStatus (tag : Byte) : Statement (.readStatus tag) :=
  ofRequest rfl (Nat.le_of_ble_eq_true rfl) rfl

theorem readAlerts (tag : Byte) : Statement (.readAlerts tag) :=
  ofRequest rfl (Nat.le_of_ble_eq_true rfl) rfl

theorem ackEvent (tag : Byte) : Statement (.ackEvent tag) :=
  ofRequest rfl (Nat.le_of_ble_eq_true rfl) rfl

theorem setMode (tag mode : Byte) : Statement (.setMode tag mode) :=
  ofRequest rfl (Nat.le_of_ble_eq_true rfl) rfl

theorem setPort (tag : Byte) (args : PortArgs) : Statement (.setPort tag args) :=
  ofRequest rfl (Nat.le_of_ble_eq_true rfl) rfl

theorem setAlerts (tag enables : Byte) : Statement (.setAlerts tag enables) :=
  ofRequest rfl (Nat.le_of_ble_eq_true rfl) rfl

theorem writeEntry (tag index : Byte) (record : EntryRecord) :
    Statement (.writeEntry tag index record) :=
  ofRequest rfl (Nat.le_of_ble_eq_true rfl) rfl

theorem readEntry (tag index : Byte) : Statement (.readEntry tag index) :=
  ofRequest rfl (Nat.le_of_ble_eq_true rfl) rfl

theorem freeEntry (tag index : Byte) : Statement (.freeEntry tag index) :=
  ofRequest rfl (Nat.le_of_ble_eq_true rfl) rfl

theorem armEntry (tag index : Byte) : Statement (.armEntry tag index) :=
  ofRequest rfl (Nat.le_of_ble_eq_true rfl) rfl

theorem suspendEntry (tag index : Byte) : Statement (.suspendEntry tag index) :=
  ofRequest rfl (Nat.le_of_ble_eq_true rfl) rfl

theorem tuneEntry (tag index : Byte) (record : TuneRecord) :
    Statement (.tuneEntry tag index record) :=
  ofRequest rfl (Nat.le_of_ble_eq_true rfl) rfl

theorem stepScale (tag index direction : Byte) : Statement (.stepScale tag index direction) :=
  ofRequest rfl (Nat.le_of_ble_eq_true rfl) rfl

theorem findEntry (tag port : Byte) (streamId : Word16) :
    Statement (.findEntry tag port streamId) :=
  ofRequest rfl (Nat.le_of_ble_eq_true rfl) rfl

theorem readCounters (tag kind target clear : Byte) :
    Statement (.readCounters tag kind target clear) :=
  ofRequest rfl (Nat.le_of_ble_eq_true rfl) rfl

theorem bulkLoad (tag : Byte) (start : Word16) (count : Byte) :
    Statement (.bulkLoad tag start count) :=
  ofRequest rfl (Nat.le_of_ble_eq_true rfl) rfl

theorem loadData (tag : Byte) (record : EntryRecord) : Statement (.loadData tag record) :=
  ofRequest rfl (Nat.le_of_ble_eq_true rfl) rfl

theorem gapTimerExpiry : Statement .gapTimerExpiry :=
  ofEvent rfl rfl

theorem readLapses (tag : Byte) : Statement (.readLapses tag) :=
  ofRequest rfl (Nat.le_of_ble_eq_true rfl) rfl

theorem readDiverted (tag : Byte) : Statement (.readDiverted tag) :=
  ofRequest rfl (Nat.le_of_ble_eq_true rfl) rfl

theorem setGate (tag group setting : Byte) : Statement (.setGate tag group setting) :=
  ofRequest rfl (Nat.le_of_ble_eq_true rfl) rfl

theorem setLock (tag lock : Byte) : Statement (.setLock tag lock) :=
  ofRequest rfl (Nat.le_of_ble_eq_true rfl) rfl

theorem setIdent (tag : Byte) (streamId : Word16) : Statement (.setIdent tag streamId) :=
  ofRequest rfl (Nat.le_of_ble_eq_true rfl) rfl

theorem sendLineReset (tag port : Byte) : Statement (.sendLineReset tag port) :=
  ofRequest rfl (Nat.le_of_ble_eq_true rfl) rfl

theorem abort (tag : Byte) : Statement (.abort tag) :=
  ofRequest rfl (Nat.le_of_ble_eq_true rfl) rfl

theorem halt (tag : Byte) : Statement (.halt tag) :=
  ofRequest rfl (Nat.le_of_ble_eq_true rfl) rfl

theorem resetWarm (tag : Byte) : Statement (.resetWarm tag) :=
  ofRequest rfl (Nat.le_of_ble_eq_true rfl) rfl

theorem escalation : Statement .escalation :=
  ofEvent rfl rfl

theorem freezeAsserted : Statement .freezeAsserted :=
  ofEvent rfl rfl

theorem freezeDeasserted : Statement .freezeDeasserted :=
  ofEvent rfl rfl

theorem coldReset (cause : ColdCause) : Statement (.coldReset cause) :=
  ofEvent rfl rfl

theorem resetDeasserted : Statement .resetDeasserted :=
  ofEvent rfl rfl

theorem powerUpStart : Statement .powerUpStart :=
  ofEvent rfl rfl

theorem idleReceived (p : Port) : Statement (.idleReceived p) :=
  ofEvent rfl rfl

end Sys2Proof.Laws.Sent
end

