-- ==== Sys2Proof/Laws/Tracker.lean ====
section
/-! SUPPORT. The tracker's arithmetic: doubling and halving, what settling the deadline writes, and which
steps leave which fields. -/

namespace Sys2Proof.Machine

theorem doubled_le (n : Nat) : doubled n ≤ 255 := by simp [doubled]

theorem le_doubled (n : Nat) (h : n ≤ 255) : n ≤ doubled n := by simp [doubled]; omega

theorem halvedKeep_pos (n : Nat) : 1 ≤ halvedKeep n := by simp [halvedKeep]

theorem halvedKeep_le (n : Nat) (h : 1 ≤ n) : halvedKeep n ≤ n := by simp [halvedKeep]; omega

/-- A doubling that does not saturate is exact. -/
theorem doubled_of_not_saturates (n : Nat) (h : saturates n = false) : doubled n = 2 * n := by
  simp [saturates] at h
  simp [doubled]
  omega

theorem doubledTimes_fst (k n : Nat) : (doubledTimes k n).1 = Nat.iterate doubled k n := by
  induction k generalizing n with
  | zero => rfl
  | succ k ih => exact ih (doubled n)

/-- Repeated doubling saturates when one of its doublings does (R69). -/
theorem doubledTimes_snd (k n : Nat) :
    (doubledTimes k n).2 = true ↔ ∃ j, j < k ∧ saturates (Nat.iterate doubled j n) = true := by
  induction k generalizing n with
  | zero => simp [doubledTimes]
  | succ k ih =>
    simp only [doubledTimes, Bool.or_eq_true, ih]
    constructor
    · rintro (h | ⟨j, hj, h⟩)
      · exact ⟨0, by omega, h⟩
      · exact ⟨j + 1, by omega, h⟩
    · rintro ⟨j, hj, h⟩
      cases j with
      | zero => exact .inl h
      | succ j => exact .inr ⟨j, by omega, h⟩

theorem halvedTimes_eq (k n : Nat) : halvedTimes k n = Nat.iterate halvedKeep k n := by
  induction k generalizing n with
  | zero => rfl
  | succ k ih => exact ih (halvedKeep n)

theorem doubledTimes_range (k n : Nat) (h : 1 ≤ n ∧ n ≤ 255) :
    1 ≤ (doubledTimes k n).1 ∧ (doubledTimes k n).1 ≤ 255 := by
  induction k generalizing n with
  | zero => exact h
  | succ k ih => exact ih (doubled n) ⟨by simp [doubled]; omega, doubled_le n⟩

theorem halvedTimes_range (k n : Nat) (h : 1 ≤ n ∧ n ≤ 255) :
    1 ≤ halvedTimes k n ∧ halvedTimes k n ≤ 255 := by
  induction k generalizing n with
  | zero => exact h
  | succ k ih => exact ih (halvedKeep n) ⟨halvedKeep_pos n, by simp [halvedKeep]; omega⟩

/-- Settling writes the deadline and the overflow flag alone (R67 to R70). -/
theorem settle_frame (t : Tracker) (sat : Bool) :
    t.settle sat =
      { t with deadline := (t.settle sat).deadline, overflow := (t.settle sat).overflow } := by
  unfold Tracker.settle; split <;> rfl

/-- A settled deadline is in its range when the fixed deadline is (R62). -/
theorem settle_deadline_range (t : Tracker) (sat : Bool)
    (h : 1 ≤ t.fixedDeadline ∧ t.fixedDeadline ≤ 255) :
    1 ≤ (t.settle sat).deadline ∧ (t.settle sat).deadline ≤ 255 := by
  unfold Tracker.settle
  split
  · constructor <;> simp
  · exact h

/-- The fixed deadline that arming writes is in its range (R61, R71). -/
theorem rebased_range (t : Tracker) (h : 1 ≤ t.fixedDeadline ∧ t.fixedDeadline ≤ 255) :
    1 ≤ t.rebased.1 ∧ t.rebased.1 ≤ 255 := by
  unfold Tracker.rebased
  split
  · exact doubledTimes_range _ _ h
  · exact halvedTimes_range _ _ h

/-- A repeat deadline is at least 1 (R100). -/
theorem repeatDeadline_pos (t : Tracker) (h : 1 ≤ t.fixedDeadline) : 1 ≤ t.repeatDeadline := by
  unfold Tracker.repeatDeadline
  split
  · simp
  · exact h

/-- With no preload the preload step does nothing (R89). -/
theorem takePreload_of_none (t : Tracker) (h : t.preload = none) : t.takePreload = t := by
  simp [Tracker.takePreload, h]

/-- With no scale request the scale step does nothing (R94). -/
theorem scaleStep_of_none (t : Tracker) (hu : t.scaleUp = false) (hd : t.scaleDown = false) :
    t.scaleStep = t := by
  simp [Tracker.scaleStep, hu, hd]

/-- Where no slow-down is due a tracker lapses as it stands (R79). -/
theorem toDeadline_of_not_slows (fuel : Nat) (t : Tracker)
    (h : t.slowsAt .tracking t.deadline = false) : Tracker.toDeadline fuel t = t := by
  cases fuel <;> simp [Tracker.toDeadline, h]

theorem Tune.isEmpty_iff (u : Tune) :
    u.isEmpty = true ↔ u = ⟨none, none, none, none, none, none⟩ := by
  obtain ⟨a, b, c, d, e, f⟩ := u
  cases a <;> cases b <;> cases c <;> cases d <;> cases e <;> cases f <;> simp [Tune.isEmpty]

end Sys2Proof.Machine
end

