-- ==== Sys2Proof/Tests/Slice0.lean ====
section
/-! SUPPORT. Tests: what well-formedness refuses, the source's worked examples, and for every statement with
hypotheses a state and operands that meet them. -/

namespace Sys2Proof.Tests

-- One test at a time: each waits for the kernel.
set_option Elab.async false

open Sys2Proof.Machine

/-! ### Well-formedness -/

theorem test_bad_command_with_a_good_payload_is_refused :
    Instr.wellFormed (.badCommand 1 [0x01]) = false ∧
      Instr.wellFormed (.badCommand 1 [0x05, 2]) = false := by decide

theorem test_bad_command_over_240_bytes_is_refused :
    Instr.wellFormed (.badCommand 1 (List.replicate 241 0xFF)) = false ∧
      Instr.wellFormed (.badCommand 1 (List.replicate 240 0xFF)) = true := by decide +kernel

theorem test_bad_payloads_are_well_formed :
    Instr.wellFormed (.badCommand 1 []) = true ∧ Instr.wellFormed (.badCommand 1 [0x0C]) = true ∧
      Instr.wellFormed (.badCommand 1 [0x05]) = true := by decide

theorem test_no_table_word_spells_a_command : decodeTableWord 16 0x1234 = none := rfl

/-! ### The states the tests use -/

/-- A running part in RUN with both ports UP, both receivers in HUNT. -/
def upState : State :=
  { State.reset with
    mode := .run
    portN := { PortState.cold with receiver := .hunt }
    portS := { PortState.cold with receiver := .hunt } }

/-- The tracker of the cadence trace, entry 40 of section 4.10, after its write. -/
def learnTracker : Tracker :=
  ⟨.learn, 3, 125, 48, .last, 100, 3, .mark, 3, 0, 125, 125, 187, false, 0, false, false, false, none⟩

/-- The tracker of entry 50 of section 5.8. -/
def fixedTracker : Tracker :=
  ⟨.fixed, 5, 90, 48, .last, 100, 3, .mark, 5, 0, 90, 90, 100, false, 0, false, false, false, none⟩

/-- An entry with the key (S, 300) in group 4. -/
def entry40 (st : EntryState) (t : Option Tracker) : Entry :=
  ⟨st, .S, 300, .forward, .cyclic, 4, true, some 21, t, .zero⟩

/-- `upState` with an entry at index 40. -/
def withEntry (e : Entry) : State := upState.setEntry 40 (some e)

/-- A DATA frame of entry 40's stream. -/
def dataFrame (seq : Byte) : Frame := ⟨.data, 300, seq, [0xAA]⟩

/-- A state whose port `p` has buffer 0 in FILL with the bytes `bytes`. -/
def filling (s : State) (p : Port) (bytes : List Byte) : State :=
  { s with free := allBuffers.drop 1, contents := s.contents.set 0 bytes }.modPort p fun ps =>
    { ps with receiver := .fill 0 }

/-- The record of a LEARN entry with the key (S, `sid`), as the bulk-load trace sends it. -/
def record (sid : Word16) (group armFlag : Byte) : EntryRecord :=
  ⟨1, sid, 0, 0, group, 1, 2, armFlag, 3, 125, 48, 0, 100, 3, 0⟩

/-- Eight responses, a full queue. -/
def eightResponses : List Response := List.replicate 8 ⟨4095, 0, 1, .done, 0, []⟩

/-! ### The source's worked examples -/

theorem test_check_of_the_nine_bytes_is_29B1 :
    crc [0x31, 0x32, 0x33, 0x34, 0x35, 0x36, 0x37, 0x38, 0x39] = 0x29B1 := by decide +kernel

theorem test_write_settles_187 :
    cadencePartOf (record 300 4 1) = some (some learnTracker) := by decide +kernel

theorem test_trace_4_10_event_4_speeds_up :
    ({ learnTracker with elapsed := 60 } : Tracker).arriveTracking =
      { learnTracker with exp := 2, last := 120, prev := 250, deadline := 180,
                          fixedDeadline := 200 } := by decide +kernel

theorem test_trace_4_10_event_7_clamps :
    let t := { learnTracker with exp := 2, last := 120, prev := 120, deadline := 180 }
    ({ t with elapsed := 175 } : Tracker).arriveTracking =
      { t with last := 175, deadline := 255, overflow := true } := by decide +kernel

theorem test_trace_4_10_event_8_slows_down :
    let t := { learnTracker with exp := 2, elapsed := 254, last := 175, prev := 120, deadline := 255,
                                 overflow := true }
    t.tick .tracking =
      ({ learnTracker with exp := 3, elapsed := 127, last := 87, prev := 60, deadline := 130,
                           fixedDeadline := 50 }, false) := by decide +kernel

theorem test_section_4_8_slow_down_lapses_at_once :
    let t := { learnTracker with weight := 32, exp := 5, elapsed := 254, last := 255, prev := 255,
                                 deadline := 255 }
    (t.tick .tracking).2 = true ∧ (t.tick .tracking).1.deadline = 127 := by decide +kernel

theorem test_rearming_doubles_and_halves_the_fixed_deadline :
    ({ fixedTracker with baseExp := 6, exp := 8, fixedDeadline := 10 } : Tracker).arm.fixedDeadline =
        40 ∧
      ({ fixedTracker with baseExp := 6, exp := 4, fixedDeadline := 200 } : Tracker).arm.fixedDeadline
        = 50 := by decide +kernel

theorem test_tune_example_entry_60 :
    let t := { learnTracker with exp := 4, last := 100, prev := 110, deadline := 150 }
    t.tuneNow ⟨some 40, some .previous, none, none, none, none⟩ =
      { t with weight := 40, basis := .previous, deadline := 137 } := by decide +kernel

theorem test_section_5_8_event_5_scales_up :
    let t := { fixedTracker with elapsed := 90, scaleUp := true, scaleDown := true,
                                 preload := some ⟨none, none, none, none, none, some 96⟩ }
    t.arriveTracking =
      { fixedTracker with exp := 6, last := 45, prev := 45, fixedDeadline := 48, deadline := 48,
                          scaleDown := true } := by decide +kernel

theorem test_section_5_8_event_6_scales_down :
    let t := { fixedTracker with exp := 6, elapsed := 45, last := 45, prev := 45, fixedDeadline := 48,
                                 deadline := 48, scaleDown := true }
    t.arriveTracking = { fixedTracker with fixedDeadline := 96, deadline := 96 } := by decide +kernel

theorem test_section_5_8_entry_51_retuned :
    let t := { learnTracker with exp := 4, elapsed := 80, last := 120, prev := 120, deadline := 180,
                                 preload := some ⟨some 32, none, none, none, none, none⟩ }
    t.arriveTracking =
      { learnTracker with exp := 3, weight := 32, last := 160, prev := 240, fixedDeadline := 200,
                          deadline := 160 } := by decide +kernel

theorem test_section_5_8_entry_51_made_fixed :
    let t := { learnTracker with exp := 3, weight := 32, elapsed := 160, last := 160, prev := 240,
                                 fixedDeadline := 200, deadline := 160,
                                 preload := some ⟨none, none, none, none, some .fixed, some 170⟩ }
    t.arriveTracking =
      { t with mode := .fixed, elapsed := 0, last := 160, prev := 160, fixedDeadline := 170,
               deadline := 170, preload := none } := by decide +kernel

/-- Port N's cyclic queue of the lapse trace: `n` markers. -/
def markers (n : Nat) : List Descr := List.replicate n (.marker ⟨0, 0, 0, 0⟩)

/-- Entry 70 of section 6.9, at an elapsed count and a miss run. -/
def entry70 (st : EntryState) (elapsed misses : Nat) : Entry :=
  ⟨st, .S, 500, .forward, .cyclic, 7, true, some 21,
    some { learnTracker with exp := 4, weight := 40, last := 100, prev := 100, deadline := 125,
                             elapsed := elapsed, misses := misses },
    { EntryCounters.zero with misses := misses }⟩

/-- Section 6.9's part, port N's cyclic queue holding `n`. -/
def lapsePart (e : Entry) (n : Nat) : State :=
  { upState.setEntry 70 (some e) with lapseList := [12] }.modPort .N fun ps =>
    { ps with cyclic := markers n }

/-- The state a command answers, or the state before where it answers none. -/
def after (c : Instr) (s : State) : State :=
  match exec c s with
  | .next t => t
  | _ => s

theorem test_lapse_trace_event_1 :
    let t := after (.tickExpiry 70) (lapsePart (entry70 .tracking 124 0) 0)
    t.portN.cyclic = [.marker ⟨70, 500, 21, 1⟩] ∧
      (t.entry 70).map (fun e => (e.state, e.counters.misses)) = some (.overdue, 1) ∧
      t.lapseList = [12] := by decide +kernel

theorem test_lapse_trace_event_2 :
    let t := after (.tickExpiry 70) (lapsePart (entry70 .overdue 99 1) 32)
    t.portN.cyclic.length = 32 ∧
      (t.entry 70).map (fun e => (e.state, e.counters.markersLost)) = some (.overdue, 1) := by
  decide +kernel

theorem test_lapse_trace_event_3 :
    let t := after (.tickExpiry 70) (lapsePart (entry70 .overdue 99 2) 0)
    t.portN.cyclic = [.marker ⟨70, 500, 21, 3⟩] ∧ t.lapseList = [12, 70] ∧
      (t.entry 70).map (fun e => (e.state, e.counters.lapses)) = some (.lapsed, 1) := by
  decide +kernel

theorem test_pause_sequence_event_2 :
    let u := { upState with portN := { upState.portN with acyclic := List.replicate 47 1 } }
    let s := filling { u with mode := .bypass } .S (dataFrame 1).bytes
    let t := after (.eof .S) s
    t.portN.acyclic.length = 48 ∧ t.portS.pauseState = .paused ∧
      t.portS.controlSlot = some .pause ∧ t.portS.resend = 0 := by decide +kernel

theorem test_pause_sequence_event_14 :
    let s := { upState with
      portN := { upState.portN with acyclic := List.replicate 17 1 }
      portS := { upState.portS with pauseState := .paused, resend := 1 } }
    let t := after (.transmissionStart .N) s
    t.portN.tx = .sending (.acyclic 1) ∧ t.portS.pauseState = .opened ∧
      t.portS.controlSlot = some .resume := by decide +kernel

/-- Section 9.8's part before event 6. -/
def loadPart : State :=
  { upState.setEntry 12 (some { entry40 .armed none with streamId := 700, group := 5 }) with
    groupLocks := (Vector.replicate 8 false).set 5 true
    mgmt :=
      { Mgmt.cold with
        executing := some (.loading ⟨4095, 40, .bulkLoad 10 4⟩)
        waiting := some ⟨4095, 42, .readStatus⟩
        nextIndex := 12
        remaining := 2
        reload := 4
        step := 2
        gapTimer := true } }

theorem test_bulk_load_trace_event_6 :
    let t := after (.loadData 45 (record 812 2 1)) loadPart
    t.responses.map (fun r => (r.tag, r.status, r.step)) =
        [(45, .locked, 2), (40, .locked, 2), (42, .done, 0)] ∧
      t.mgmt = { Mgmt.cold with
        nextIndex := 12
        reload := 4
        step := 2
        lastLoad := some ⟨.locked, 2, 12⟩ } ∧ t.entry 12 = loadPart.entry 12 := by decide +kernel

theorem test_bulk_load_trace_events_5_and_7 :
    ((after (.identify 44) loadPart).responses.map fun r => (r.tag, r.status, r.step)) =
        [(44, .busy, 0)] ∧
      ((after (.loadData 46 (record 813 2 0)) upState).responses.map fun r => (r.tag, r.status)) =
        [(46, .notLoading)] := by decide +kernel

theorem test_a_request_frame_is_its_command :
    let f : Frame := ⟨.mgmtReq, 4095, 9, [0x01]⟩
    (after (.eof .N) (filling upState .N f.bytes)).responses =
      [⟨4095, 9, 0x01, .done, 0, [0x2E, 0x71, 0x04, 0x12, 0x03, 0x01, 0x00, 0xA0]⟩] := by
  decide +kernel

/-! ### Witnesses: a state and operands that meet each statement's hypotheses -/

/-- A running part with a frame in reception, an OVERDUE entry, a LAPSED one that is listed, a PAUSED port
and a request behind a built response. -/
def lively : State :=
  { (upState.setEntry 40 (some (entry40 .overdue (some
      { learnTracker with misses := 1, elapsed := 124 })))).setEntry 70
      (some { entry70 .lapsed 0 3 with action := .drop }) with
    free := allBuffers.drop 2
    contents := upState.contents.set 1 (dataFrame 21).bytes
    divert := [⟨1, .N, none⟩]
    lapseList := [70]
    portS := { upState.portS with receiver := .fill 0, pauseState := .paused, resend := 7 }
    mgmt :=
      { Mgmt.cold with
        executing := some (.built ⟨4095, 1, 0x01, .done, 0, []⟩)
        waiting := some ⟨4095, 2, .identify⟩ }
    responses := eightResponses
    pending := [.eof .S] }

theorem lively_entry (i : Byte) :
    lively.entry i =
      if i = 70 then some { entry70 .lapsed 0 3 with action := .drop }
      else if i = 40 then some (entry40 .overdue (some
        { learnTracker with misses := 1, elapsed := 124 }))
      else none := by
  revert i; decide +kernel

/-- `lively` takes a step, so every statement about a step's next state says something of it. -/
theorem lively_steps : ∃ t, step lively = .next t := ⟨_, rfl⟩

theorem test_witness_StepTakesTheFrontCommand : State.reset.pending = [] := rfl

/-- R198, R203: a cold reset that ends with the freeze input deasserted starts in BYPASS. -/
theorem test_cold_reset_starts_in_bypass :
    State.reset.mode = .bypass ∧
      step { State.cold true true false [] with pending := [.resetDeasserted] } =
        .next State.reset := ⟨rfl, rfl⟩

theorem test_witness_HeldInReset :
    (State.cold true true false []).running = false ∧ State.reset.resetLow = false ∧
      State.reset.powered = true := ⟨rfl, rfl, rfl⟩

theorem test_witness_StepKeepsEveryBufferInOnePlace :
    lively.BufferLaw ∧ ∃ t, step lively = .next t := by
  refine ⟨?_, lively_steps⟩
  unfold State.BufferLaw
  decide +kernel

theorem lively_content : lively.ContentLaw := by
  refine ⟨fun b hb => ?_, by decide +kernel⟩
  have hb1 : b = 1 := by
    have : lively.frameBufs = [1] := by decide +kernel
    simpa [this] using hb
  subst hb1
  exact ⟨dataFrame 21, by decide +kernel, by decide, by decide⟩

theorem test_witness_StepKeepsIntactFramesInBuffers :
    lively.BufferLaw ∧ lively.ContentLaw ∧ ∃ t, step lively = .next t :=
  ⟨test_witness_StepKeepsEveryBufferInOnePlace.1, lively_content, lively_steps⟩

theorem test_witness_StepKeepsQueueCapacities :
    lively.QueueLaw ∧ ∃ t, step lively = .next t := by
  refine ⟨⟨fun p => ?_, ?_, ?_⟩, lively_steps⟩
  · cases p <;> decide +kernel
  all_goals decide +kernel

theorem test_witness_StepKeepsTheLapseListLaw :
    lively.LapseListLaw ∧ ∃ t, step lively = .next t := by
  refine ⟨⟨by decide +kernel, by decide +kernel, fun i h => ?_⟩, lively_steps⟩
  have hi : i = 70 := by simpa [lively] using h
  exact ⟨_, by rw [lively_entry, if_pos hi], rfl⟩

theorem lively_key (i : Byte) (e : Entry) (h : lively.entry i = some e) :
    e.keyPort = .S ∧ (i = 70 ∧ e.streamId = 500 ∨ i = 40 ∧ e.streamId = 300) := by
  rw [lively_entry] at h
  split at h
  · cases h
    exact ⟨rfl, .inl ⟨‹_›, rfl⟩⟩
  · split at h
    · cases h
      exact ⟨rfl, .inr ⟨‹_›, rfl⟩⟩
    · cases h

theorem test_witness_StepKeepsTheKeyLaw : lively.KeyLaw ∧ ∃ t, step lively = .next t := by
  refine ⟨⟨fun i j e f he hf _ hs => ?_, fun i e he h => ?_⟩, lively_steps⟩
  · obtain ⟨_, ⟨rfl, h1⟩ | ⟨rfl, h1⟩⟩ := lively_key i e he <;>
      obtain ⟨_, ⟨rfl, h2⟩ | ⟨rfl, h2⟩⟩ := lively_key j f hf <;>
      first | rfl | exact absurd (h1.symm.trans (hs.trans h2)) (by decide)
  · rw [(lively_key i e he).1] at h
    exact absurd h.1 (by decide)

theorem test_witness_StepKeepsTrackerRanges :
    lively.TableLaw ∧ (∃ t, step lively = .next t) ∧
      ∃ e t, lively.entry 40 = some e ∧ e.tracker = some t := by
  refine ⟨fun i e he => ?_, lively_steps, _, _, by rw [lively_entry]; rfl, rfl⟩
  rw [lively_entry] at he
  split at he
  · cases he
    refine ⟨by decide, by decide, fun t ht => ?_⟩
    cases ht
    refine ⟨?_, ?_, ?_, by decide, by simp [learnTracker]⟩
    · unfold Tracker.SettingsInRange; decide
    · unfold Tracker.RunningInRange; decide
    · show _ ∧ _; decide
  · split at he
    · cases he
      refine ⟨by decide, by decide, fun t ht => ?_⟩
      cases ht
      refine ⟨?_, ?_, ?_, by decide, by simp [learnTracker]⟩
      · unfold Tracker.SettingsInRange; decide
      · unfold Tracker.RunningInRange; decide
      · show _ ∧ _ ∧ _; decide
    · cases he

theorem test_witness_StepKeepsThePortLaw : lively.PortLaw ∧ ∃ t, step lively = .next t := by
  refine ⟨fun p => ⟨?_, ?_⟩, lively_steps⟩
  · cases p <;> unfold PortState.FlowSound PortSettings.InRange <;> decide +kernel
  · cases p <;> exact fun h => absurd h (by decide +kernel)

theorem test_witness_StepKeepsTheManagementLaw :
    lively.MgmtLaw ∧ ∃ t, step lively = .next t := by
  refine ⟨⟨⟨by decide, by decide, by decide, rfl, rfl⟩, ⟨fun h => (nomatch h), fun req h => ?_⟩,
    fun h => (nomatch h), fun h => absurd rfl h, rfl⟩, lively_steps⟩
  cases h
  exact ⟨rfl, fun _ => rfl⟩

theorem test_witness_StepKeepsTheModeLaw : lively.ModeLaw ∧ ∃ t, step lively = .next t := by
  refine ⟨⟨fun h => (nomatch h), fun h => (nomatch h), fun i e he ht => ⟨rfl, ?_⟩,
    fun h => (nomatch h), fun _ h => (nomatch h)⟩, lively_steps⟩
  rw [lively_entry] at he
  split at he
  · cases he; cases ht
  · split at he
    · cases he; decide +kernel
    · cases he

/-- Code 00h names no command. -/
theorem test_witness_EveryRequestPayloadReadsBack : ∀ c : Command, c.code ≠ 0x00 := by
  intro c
  cases c <;> (simp only [Command.code]; decide)

theorem test_witness_EveryFrameReadsBack :
    (⟨.mgmtReq, 4095, 0, List.replicate 240 0xFF⟩ : Frame).payload.length ≤ 240 := by decide +kernel

/-- The receiver's four states, with a free buffer and without. -/
def emptyPool : State := { upState with free := [] }

theorem test_witness_SofByReceiverState :
    (upState.running = true ∧ (upState.port .N).receiver = .hunt ∧
        upState.free ≠ []) ∧
      (emptyPool.running = true ∧ (emptyPool.port .N).receiver = .hunt ∧ emptyPool.free = [] ∧
        emptyPool.enables.poolExhausted = false) ∧
      (filling upState .N []).Filling .N 0 ∧
      (State.reset.running = true ∧ (State.reset.port .S).receiver = .off) := by
  refine ⟨by decide +kernel, by decide +kernel, ⟨by decide +kernel, by decide +kernel⟩,
    by decide +kernel⟩

/-- A state with a frame of buffer 0 at hand-off, in a mode. -/
def handing (m : RunMode) (p : Port) (f : Frame) : State :=
  { filling upState p f.bytes with mode := m }

theorem handing_holds (m : RunMode) (p : Port) (f : Frame) (hf : parseFrame f.bytes = some f)
    (h1 : f.kind ≠ .pause) (h2 : f.kind ≠ .resume) (h3 : f.kind ≠ .mgmtReq) :
    (handing m p f).HoldsTraffic p 0 f := by
  refine ⟨⟨?_, ?_⟩, ?_, h1, h2, ?_⟩
  · cases p <;> rfl
  · cases p <;> rfl
  · rw [show (handing m p f).contents[(0 : BufId)] = f.bytes by cases p <;> rfl, hf]
  · simp [State.ownRequest, h3]

theorem dataFrame_parses : parseFrame (dataFrame 21).bytes = some (dataFrame 21) := by
  decide +kernel

/-- `handing` with a DATA frame of the key (S, 300). -/
theorem handing_data (m : RunMode) : (handing m .S (dataFrame 21)).HoldsTraffic .S 0 (dataFrame 21) :=
  handing_holds m .S _ dataFrame_parses (by decide) (by decide) (by decide)

theorem test_witness_EofTestsAndHandsOn :
    ((filling upState .N [0x10]).Filling .N 0 ∧ parseFrame [0x10] = none) ∧
      parseFrame (⟨.pause, 0, 0, []⟩ : Frame).bytes = some ⟨.pause, 0, 0, []⟩ ∧
      parseFrame (⟨.resume, 0, 0, []⟩ : Frame).bytes = some ⟨.resume, 0, 0, []⟩ ∧
      (parseFrame (⟨.mgmtReq, 4095, 1, [0x01]⟩ : Frame).bytes = some ⟨.mgmtReq, 4095, 1, [0x01]⟩ ∧
        upState.mgmtId = 4095) ∧
      (handing .run .S (dataFrame 21)).HoldsTraffic .S 0 (dataFrame 21) ∧
      ({ upState with portN := { upState.portN with receiver := .skip } }.port .N).receiver =
        .skip ∧
      ((upState.port .N).receiver = .hunt ∧ (State.reset.port .N).receiver = .off) :=
  ⟨⟨⟨rfl, rfl⟩, by decide +kernel⟩, by decide +kernel, by decide +kernel,
    ⟨by decide +kernel, rfl⟩, handing_data .run, rfl, rfl, rfl⟩

theorem test_witness_DataByteAndAbortInReception :
    ((filling upState .N (List.replicate 246 0)).Filling .N 0 ∧
        (filling upState .N (List.replicate 246 0)).contents[(0 : BufId)].length < 247) ∧
      ((filling upState .N (List.replicate 247 0)).Filling .N 0 ∧
        247 ≤ (filling upState .N (List.replicate 247 0)).contents[(0 : BufId)].length) ∧
      (upState.running = true ∧ ∀ b, (upState.port .N).receiver ≠ .fill b) :=
  ⟨⟨⟨rfl, rfl⟩, by decide +kernel⟩, ⟨⟨rfl, rfl⟩, by decide +kernel⟩, rfl, fun _ h => (nomatch h)⟩

/-- A DOWN port N one IDLE before UP. -/
def nearlyUp : State := { State.reset with portN := { PortState.cold with upCount := 99 } }

theorem test_witness_IdleAndPortUpBringAPortUp :
    (nearlyUp.running = true ∧ (nearlyUp.port .N).receiver = .off ∧
        ¬(nearlyUp.port .N).upCount < 99) ∧
      ((State.reset.port .N).receiver = .off ∧ (State.reset.port .N).upCount < 99) ∧
      (upState.port .N).receiver ≠ .off := by decide +kernel

theorem test_witness_LineEventsOnPortS :
    (upState.running = true ∧ (upState.port .S).receiver ≠ .off ∧
        upState.portS.breakTaken = false) ∧
      ({ upState with portS := { upState.portS with breakTaken := true } }.port .S).breakTaken = true ∧
      (State.reset.running = true ∧ (State.reset.port .S).receiver = .off) := by decide +kernel

theorem test_witness_LineEventsOnPortNAreLinkEvents :
    (upState.running = true ∧ upState.portN.receiver ≠ .off ∧ upState.portN.breakTaken = false ∧
        upState.mgmt.heldEvent = false ∧ upState.anyActive = false ∧
        upState.enables.linkEvent = true) ∧
      (loadPart.running = true ∧ loadPart.portN.receiver ≠ .off ∧
        loadPart.mgmt.executing = some (.loading ⟨4095, 40, .bulkLoad 10 4⟩)) := by decide +kernel

/-- Port settings' defaults and a re-send count, in either pause state. -/
def paused (n : Nat) : PortState := { PortState.cold with pauseState := .paused, resend := n }

theorem test_witness_FlowControllerAnswersItsReports :
    (PortState.cold.pauseState = .opened ∧ PortState.cold.settings.upper ≤ 48 ∧
        47 < PortState.cold.settings.upper) ∧
      ((paused 7).pauseState = .paused ∧ (paused 7).settings.pauseRepeat ≤ 7 + 1 ∧
        6 + 1 < (paused 6).settings.pauseRepeat ∧ 16 ≤ (paused 7).settings.lower ∧
        (paused 7).settings.lower < 17) ∧
      ({ upState with portN := { upState.portN with held := true, holdTimer := some 50 } }.port
        .N).holdTimer ≠ none ∧
      (upState.port .N).holdTimer = none := by decide +kernel

/-- Port N's acyclic queue at 63 and at 64. -/
def acyclicAt (n : Nat) (s : State) : State :=
  { s with portN := { s.portN with acyclic := List.replicate n 1 } }

theorem test_witness_BypassForwardsAndHaltedDrops :
    (handing .bypass .S (dataFrame 21)).HoldsTraffic .S 0 (dataFrame 21) ∧
      (handing (.halted .command) .S (dataFrame 21)).HoldsTraffic .S 0 (dataFrame 21) ∧
      (((handing .bypass .S (dataFrame 21)).port (Port.opp .S)).receiver ≠ .off ∧
        ((acyclicAt 63 (handing .bypass .S (dataFrame 21))).port .N).acyclic.length < 64 ∧
        64 ≤ ((acyclicAt 64 (handing .bypass .S (dataFrame 21))).port .N).acyclic.length) :=
  ⟨handing_data _, handing_data _, by decide +kernel⟩

theorem test_witness_MissGetsTheMissPolicy :
    (handing .run .S (dataFrame 21)).HoldsTraffic .S 0 (dataFrame 21) ∧
      (handing .run .S (dataFrame 21)).mode = .run ∧
      (∀ i, (handing .run .S (dataFrame 21)).entry i = none) ∧
      (((handing .run .S (dataFrame 21)).port .S).settings.missPolicy = .forward ∧
        (((handing .run .S (dataFrame 21)).port (Port.opp .S)).receiver ≠ .off ∧
          ((acyclicAt 63 (handing .run .S (dataFrame 21))).port .N).acyclic.length < 64 ∧
          64 ≤ ((acyclicAt 64 (handing .run .S (dataFrame 21))).port .N).acyclic.length) ∧
        ({ handing .run .S (dataFrame 21) with portN := PortState.cold }.port
          (Port.opp .S)).receiver = .off) ∧
      (handing .run .S (dataFrame 21)).divert.length < 16 ∧
      16 ≤ (List.replicate 16 (⟨0, .N, none⟩ : DivertDescr)).length :=
  ⟨handing_data _, rfl, by decide +kernel, ⟨rfl, by decide +kernel, rfl⟩, by decide +kernel,
    by decide +kernel⟩

/-- `handing` with entry 40 written. -/
def hitting (e : Entry) (f : Frame) : State := (handing .run .S f).setEntry 40 (some e)

theorem hitting_holds (e : Entry) (f : Frame) (hf : parseFrame f.bytes = some f) (h1 : f.kind ≠ .pause)
    (h2 : f.kind ≠ .resume) (h3 : f.kind ≠ .mgmtReq) : (hitting e f).HoldsTraffic .S 0 f :=
  handing_holds .run .S f hf h1 h2 h3

/-- A MARKER with entry 40's stream id. -/
def markerFrame : Frame := ⟨.marker, 300, 3, [1, 2]⟩

theorem test_witness_EntryChecksThenSequenceCheck :
    (∀ e f, parseFrame f.bytes = some f → f.kind = .data →
        (hitting e f).HoldsTraffic .S 0 f ∧ (hitting e f).mode = .run) ∧
      ((hitting (entry40 .suspended none) (dataFrame 21)).lookup .S 300 = some 40 ∧
        (hitting (entry40 .suspended none) (dataFrame 21)).entry 40 =
          some (entry40 .suspended none)) ∧
      (parseFrame (dataFrame 20).bytes = some (dataFrame 20) ∧
        (hitting (entry40 .tracking none) (dataFrame 20)).lookup .S 300 = some 40 ∧
        (hitting (entry40 .tracking none) (dataFrame 20)).gateOf (entry40 .tracking none) =
          .opened ∧ (dataFrame 20).seq = 21 - 1) ∧
      ((hitting (entry40 .armed none) markerFrame).HoldsTraffic .S 0 markerFrame ∧
        markerFrame.kind ≠ .data) := by
  refine ⟨fun e f hf hk => ⟨hitting_holds e f hf ?_ ?_ ?_, rfl⟩, by decide +kernel,
    by decide +kernel, hitting_holds _ _ (by decide +kernel) (by decide) (by decide) (by decide),
    by decide⟩
  all_goals rw [hk]; decide

theorem test_witness_AcceptedFrameArrivesBeforeItsAction :
    (hitting (entry40 .armed (some learnTracker)) (dataFrame 21)).HoldsTraffic .S 0 (dataFrame 21) ∧
      (hitting (entry40 .armed (some learnTracker)) (dataFrame 21)).lookup .S 300 = some 40 ∧
      (hitting (entry40 .armed (some learnTracker)) (dataFrame 21)).gateOf
        (entry40 .armed (some learnTracker)) = .opened ∧
      (entry40 .armed (some learnTracker)).verdict 21 ≠ .duplicate :=
  ⟨hitting_holds _ _ dataFrame_parses (by decide) (by decide) (by decide), by decide +kernel,
    by decide +kernel, by decide⟩

theorem test_witness_ActionsForwardDropOrDivert :
    (∀ e : Entry, (withEntry e).entry 40 = some e) ∧
      ((entry40 .armed none).action = .forward ∧ (entry40 .tracking none).cls = .cyclic) ∧
      { entry40 .tracking none with cls := .acyclic }.cls =
        { entry40 .armed none with cls := .acyclic }.cls ∧
      ((upState.port (Port.opp .S)).receiver ≠ .off ∧
        ((acyclicAt 63 upState).port .N).acyclic.length < 64 ∧
        64 ≤ ((acyclicAt 64 upState).port .N).acyclic.length ∧
        (State.reset.port (Port.opp .S)).receiver = .off) ∧
      { entry40 .armed none with action := .drop }.action = .drop ∧
      { entry40 .armed none with action := .divert }.action = .divert ∧
      upState.divert.length < 16 ∧
      16 ≤ { upState with divert := List.replicate 16 ⟨0, .N, none⟩ }.divert.length :=
  ⟨fun e => by simp [withEntry], by decide +kernel⟩

theorem test_witness_TransmissionStartTakesTheFirstEligibleSource :
    (upState.running = true ∧ (upState.port .N).tx = .ready ∧ (upState.port .N).receiver ≠ .off) ∧
      ({ upState with portN := { upState.portN with controlSlot := some .pause } }.port
        .N).controlSlot = some .pause ∧
      { upState with responses := eightResponses }.portN.controlSlot = none ∧
      { upState with alertSlot := some ⟨4095, 1, 1, .defaultEnables⟩ }.responses = [] ∧
      (upState.HigherIdle .N ∧ upState.mode.isHalted = false ∧ (upState.port .N).cyclic = []) ∧
      ((acyclicAt 1 upState).HigherIdle .N ∧ ((acyclicAt 1 upState).port .N).held = false ∧
        ((acyclicAt 1 upState).port .N).acyclic = [1]) ∧
      (((State.reset.port .N).receiver = .off)) :=
  ⟨by decide +kernel, rfl, rfl, rfl, ⟨⟨rfl, fun _ => ⟨rfl, rfl⟩⟩, rfl, rfl⟩,
    ⟨⟨rfl, fun _ => ⟨rfl, rfl⟩⟩, rfl, rfl⟩, rfl⟩

/-- `upState` with port S's transmitter in a state. -/
def sending (tx : Tx) : State := { upState with portS := { upState.portS with tx := tx } }

theorem test_witness_TransmitterCompletesSpacesAndReadies :
    ((sending (.sending (.acyclic 0))).running = true ∧
        ((sending (.sending (.acyclic 0))).port .S).tx = .sending (.acyclic 0)) ∧
      ((sending (.spacing .eof)).port .S).tx = .spacing .eof ∧ (sending .brk).portS.tx = .brk ∧
      ((∀ o, (upState.port .S).tx ≠ .sending o) ∧ (∀ k, (upState.port .S).tx ≠ .spacing k) ∧
        upState.portS.tx ≠ .brk) :=
  ⟨⟨rfl, rfl⟩, rfl, rfl, fun _ h => (nomatch h), fun _ h => (nomatch h), by decide +kernel⟩

theorem test_witness_TransmittedFramesAreTheirRules :
    (⟨4095, 0, 1, .done, 0, List.replicate 236 0⟩ : Response).data.length ≤ 236 ∧
      parseFrame (handing .run .S (dataFrame 21)).contents[(0 : BufId)] = some (dataFrame 21) :=
  ⟨by decide +kernel, (handing_data .run).2.1⟩

theorem test_witness_ArrivalInTrackingRescalesByMode :
    (learnTracker.mode = .learn ∧ learnTracker.preload = none ∧
        (0 < learnTracker.exp ∧ { learnTracker with elapsed := 84 }.elapsed < 85) ∧
        85 ≤ { learnTracker with elapsed := 85 }.elapsed) ∧
      (fixedTracker.mode = .fixed ∧ fixedTracker.preload = none ∧ fixedTracker.scaleUp = false ∧
        fixedTracker.scaleDown = false) ∧
      ({ fixedTracker with scaleUp := true, exp := 14 }.exp < 15 ∧
        15 ≤ { fixedTracker with scaleUp := true, exp := 15 }.exp) ∧
      (0 < { fixedTracker with scaleDown := true, exp := 1 }.exp ∧
        { fixedTracker with scaleDown := true, exp := 0 }.exp = 0) := by decide +kernel

theorem test_witness_ArrivalAppliesThePreload :
    learnTracker.preload = none ∧
      { learnTracker with preload := some ⟨some 32, none, none, none, none, none⟩ }.preload =
        some ⟨some 32, none, none, none, none, none⟩ := by decide

/-- A counting entry. -/
theorem counts_of (st : EntryState) (t : Tracker) (h : st.tracked = true) :
    (withEntry (entry40 st (some t))).Counts 40 (entry40 st (some t)) t :=
  ⟨rfl, by simp [withEntry], rfl, h, rfl, rfl⟩

theorem test_witness_TickExpiryCountsSlowsOrLapses :
    (∀ st t, st.tracked = true →
        (withEntry (entry40 st (some t))).Counts 40 (entry40 st (some t)) t) ∧
      (let t := { learnTracker with exp := 14, elapsed := 254, deadline := 255 }
       t.mode = .learn ∧ t.exp < 15 ∧ t.elapsed + 1 = 255) ∧
      { learnTracker with elapsed := 186 }.elapsed + 1 = learnTracker.deadline ∧
      { learnTracker with elapsed := 124 }.elapsed + 1 = learnTracker.repeatDeadline ∧
      ∀ e t, ¬upState.Counts 40 e t := by
  refine ⟨counts_of, by decide, by decide, by decide, fun e t h => ?_⟩
  have hn : upState.entry 40 = none := by decide +kernel
  exact absurd (hn.symm.trans h.2.1) (by simp)

theorem test_witness_DeadlinesAndArming :
    learnTracker.mode = .learn ∧ learnTracker.basis = .last ∧
      { learnTracker with basis := .previous }.basis = .previous ∧ fixedTracker.mode = .fixed ∧
      learnTracker.exp = learnTracker.baseExp ∧ { learnTracker with exp := 4 }.baseExp < 4 ∧
      2 < { learnTracker with exp := 2 }.baseExp := by decide

/-- A tracker whose LAPSE passes a slow-down: relearned to 190 with weight 48, to 127 with weight 32. -/
def slowTracker (weight : Nat) : Tracker :=
  { learnTracker with weight := weight, last := 255, deadline := 255 }

theorem test_witness_LapseCountsMarksAndLists :
    (∀ st t, st.tracked = true →
        (withEntry (entry40 st (some t))).Counts 40 (entry40 st (some t)) t) ∧
      learnTracker.deadline ≠ 255 ∧ (entry40 .overdue (some learnTracker)).state = .overdue ∧
      fixedTracker.mode = .fixed ∧ 15 ≤ { learnTracker with exp := 15 }.exp ∧
      ((slowTracker 48).mode = .learn ∧ (slowTracker 48).deadline = 255 ∧ (slowTracker 48).exp < 15) ∧
      127 < ({ slowTracker 48 with last := 127 }.settle false).deadline ∧
      ({ slowTracker 32 with last := 127 }.settle false).deadline ≤ 127 :=
  ⟨counts_of, by decide, rfl, rfl, by decide, by decide, by decide, by decide⟩

theorem test_lapse_through_slow_downs_is_the_last_tick :
    ((slowTracker 48).untilLapse .tracking).exp = 4 ∧
      ((slowTracker 48).untilLapse .tracking).deadline = 190 ∧
      ((slowTracker 32).untilLapse .tracking).elapsed = 127 := by decide

theorem test_witness_ModeChangeMovesEntriesAndQueues :
    ((RunMode.halted .command).isHalted = true ∧ upState.mode.isHalted = false) ∧
      RunMode.bypass.isHalted = false ∧
      { upState with mode := .halted .freeze }.mode.isHalted = true := by decide +kernel

theorem ready_upState : upState.Ready := ⟨⟨rfl, rfl, rfl, by decide⟩, rfl⟩

theorem test_witness_ModeCommandsAndFreezeSetTheMode :
    (upState.Ready ∧ upState.freezeLow = false) ∧
      ({ upState with freezeLow := true, mode := .halted .freeze }.Ready ∧
        { upState with freezeLow := true, mode := .halted .freeze }.freezeLow = true) ∧
      ((1 : Byte).toNat < 2 ∧ 2 < (3 : Byte).toNat) ∧
      ({ upState with responses := eightResponses.drop 1 }.responses.length < 8 ∧
        8 ≤ { upState with responses := eightResponses }.responses.length) :=
  ⟨⟨ready_upState, rfl⟩, ⟨⟨⟨rfl, rfl, rfl, by decide⟩, rfl⟩, rfl⟩, by decide, by decide⟩

theorem test_witness_AlertsFollowTheActiveSet :
    (upState.anyActive = false ∧ upState.setFrozen.anyActive = true ∧ upState.alertSlot = none) ∧
      upState.setFrozen.alertSlot ≠ none := by decide +kernel

theorem test_witness_RequestRowsAreArrivals :
    (requestOf (.identify 9) = some (9, .identify) ∧ upState.running = true) ∧
      (filling upState .N (⟨.mgmtReq, 4095, 9, [0x01]⟩ : Frame).bytes).Filling .N 0 ∧
      parseFrame (⟨.mgmtReq, 4095, 9, [0x01]⟩ : Frame).bytes = some ⟨.mgmtReq, 4095, 9, [0x01]⟩ ∧
      Command.identify.payload = [0x01] :=
  ⟨⟨rfl, rfl⟩, ⟨rfl, rfl⟩, by decide +kernel, rfl⟩

/-- `upState` with a built response in the executing slot. -/
def busyState (waiting : Option Request) (held : Bool) : State :=
  { upState with
    mgmt :=
      { Mgmt.cold with
        executing := some (.built ⟨4095, 1, 0x01, .done, 0, []⟩)
        waiting := waiting
        heldEvent := held } }

theorem test_witness_AdmissionRefusesOrWaits :
    badPayload [] = true ∧ badPayload [0x05] = true ∧
      (∀ bulk, upState.mgmt.executing ≠ some (.loading bulk)) ∧
      (requestOf (.halt 1) = some (1, .halt) ∧ isSlotCommand (.setMode 1) = true) ∧
      ((busyState none true).mgmt.heldEvent = true ∧ Command.setMode 1 ≠ .identify) ∧
      ((busyState none false).mgmt.executing ≠ none ∧ (busyState none false).mgmt.waiting = none) ∧
      (busyState (some ⟨4095, 2, .identify⟩) false).mgmt.waiting ≠ none :=
  ⟨rfl, rfl, fun _ h => (nomatch h), ⟨rfl, rfl⟩, by decide, by decide, by decide⟩

theorem test_witness_CompletionWaitsForAPlace :
    (let s := { upState with responses := eightResponses }
     s.running = true ∧ s.mgmt.heldEvent = false ∧ s.mgmt.executing = none ∧
       s.mgmt.waiting = none ∧ 8 ≤ s.responses.length) ∧
      (requestOf (.bulkLoad 1 0 1) = some (1, .bulkLoad 0 1) ∧
        isSlotCommand (.bulkLoad 0 1) = true) ∧
      (requestOf (.ackEvent 1) = some (1, .ackEvent) ∧ isSlotCommand .ackEvent = true ∧
        ∀ st n, Command.ackEvent ≠ .bulkLoad st n) ∧
      ((busyState none false).running = true ∧ (busyState none false).responses.length < 8 ∧
        (busyState none false).mgmt.executing =
          some (.built ⟨4095, 1, 0x01, .done, 0, []⟩)) ∧
      (upState.running = true ∧ ∀ r, upState.mgmt.executing ≠ some (.built r)) :=
  ⟨by decide +kernel, by decide, ⟨rfl, rfl, fun _ _ h => nomatch h⟩, by decide +kernel,
    rfl, fun _ h => nomatch h⟩

theorem test_witness_Idle :
    { upState with mgmt := { Mgmt.cold with heldEvent := true } }.Idle ∧ upState.Idle :=
  ⟨⟨rfl, rfl, rfl, by decide⟩, ready_upState.1⟩

/-- SET-PORT's arguments at the ends of their ranges. -/
def wideArgs : PortArgs := ⟨0, 2, 64, 63, 16, 255, 255⟩

theorem test_witness_SetPortAndSetAlertsWriteSettings :
    upState.Ready ∧
      (wideArgs.port.toNat ≤ 1 ∧ wideArgs.missPolicy.toNat ≤ 2 ∧
        (2 ≤ wideArgs.upper.toNat ∧ wideArgs.upper.toNat ≤ 64) ∧ wideArgs.lower.toNat ≤ 63 ∧
        wideArgs.lower.toNat < wideArgs.upper.toNat ∧ wideArgs.pauseRepeat = 16 ∧
        wideArgs.holdTimeout ≠ 0) ∧
      ¬{ wideArgs with upper := 63 }.lower.toNat < { wideArgs with upper := 63 }.upper.toNat ∧
      { upState with configLock := true }.Ready ∧ (63 : Byte).toNat < 64 ∧ 64 ≤ (64 : Byte).toNat :=
  ⟨ready_upState, by decide, by decide, ⟨⟨rfl, rfl, rfl, by decide⟩, rfl⟩, by decide, by decide⟩

theorem test_witness_WriteEntryChecksAndWrites :
    upState.Ready ∧ entryOf { record 300 4 1 with weight := 0 } = none ∧
      (entryOf (record 300 4 1)).isSome = true ∧
      ((entryOf { record 4095 4 1 with keyPort := 0 }).map fun e =>
        (e.keyPort, e.streamId)) = some (.N, upState.mgmtId) ∧
      ((withEntry (entry40 .armed none)).Ready ∧
        ∃ old, (withEntry (entry40 .armed none)).entry 40 = some old ∧ old.state ≠ .suspended) ∧
      (∃ j x, j ≠ 41 ∧ (withEntry (entry40 .armed none)).entry j = some x ∧ x.keyPort = .S ∧
        x.streamId = 300) ∧
      { upState with groupLocks := upState.groupLocks.set 4 true }.groupLocks[(4 : Fin 8)] = true :=
  ⟨ready_upState, by decide, by decide, by decide +kernel,
    ⟨ready_upState, _, by simp [withEntry]; rfl, by decide⟩,
    ⟨40, _, by decide, by simp [withEntry]; rfl, rfl, rfl⟩, by decide +kernel⟩

theorem test_witness_EntryCommands :
    (withEntry (entry40 .suspended (some learnTracker))).Ready ∧
      (withEntry (entry40 .suspended (some learnTracker))).entry 40 =
        some (entry40 .suspended (some learnTracker)) ∧
      (withEntry (entry40 .lapsed (some fixedTracker))).entry 40 =
        some (entry40 .lapsed (some fixedTracker)) ∧
      (withEntry (entry40 .armed none)).entry 41 = none ∧
      (entry40 .armed none).tracker = none ∧
      (withEntry (entry40 .armed none)).groupLocks[(entry40 .armed none).group] = false ∧
      { upState with groupLocks := Vector.replicate 8 true }.groupLocks[(4 : Fin 8)] = true :=
  ⟨ready_upState, by simp [withEntry], by simp [withEntry], by decide +kernel, rfl,
    by decide +kernel, by decide +kernel⟩

theorem test_witness_TuneEntryWritesOrPreloads :
    tuneOf ⟨0x01, 0, 0, 0, 0, 0, 0⟩ = none ∧
      tuneOf ⟨0x3F, 255, 1, 15, 1, 2, 255⟩ =
        some ⟨some 255, some .previous, some 15, some .silent, some .learn, some 255⟩ ∧
      tuneOf ⟨0, 0, 9, 99, 9, 9, 0⟩ = some ⟨none, none, none, none, none, none⟩ := by decide

theorem test_witness_StepScaleSetsOneFlag :
    (1 : Byte).toNat ≤ 1 ∧ 1 < (2 : Byte).toNat ∧ fixedTracker.mode = .fixed ∧
      learnTracker.mode = .learn := by decide

theorem test_witness_FindEntryLooksUpTheKey :
    (withEntry (entry40 .armed none)).lookup .S 300 = some 40 ∧ upState.lookup .S 300 = none ∧
      portCode .S = 1 ∧ (4095 : Word16).toNat ≤ 4095 ∧ 4095 < (4096 : Word16).toNat := by
  decide +kernel

theorem test_witness_ReadCounters :
    (1 < (2 : Byte).toNat ∧ (1 : Byte).toNat ≤ 1) ∧
      (withEntry (entry40 .armed none)).entry 40 = some (entry40 .armed none) :=
  ⟨by decide, by simp [withEntry]⟩

/-- `upState` with a diverted frame. -/
def divertedState : State :=
  { upState with
    contents := upState.contents.set 0 (dataFrame 21).bytes
    divert := [⟨0, .S, some 40⟩] }

theorem test_witness_ReadLapsesAndReadDivertedRemove :
    ({ upState with lapseList := [70] }.Ready ∧ { upState with lapseList := [70] }.lapseList ≠ []) ∧
      (upState.lapseList = [] ∧ upState.lapseOverflow = false ∧ upState.divert = []) ∧
      (divertedState.Ready ∧ divertedState.divert = [⟨0, .S, some 40⟩] ∧
        parseFrame divertedState.contents[(0 : BufId)] = some (dataFrame 21)) :=
  ⟨⟨⟨⟨rfl, rfl, rfl, by decide⟩, rfl⟩, by decide⟩, ⟨rfl, rfl, rfl⟩,
    ⟨⟨rfl, rfl, rfl, by decide⟩, rfl⟩, rfl, by decide +kernel⟩

theorem test_witness_SetGateMovesItsGroup :
    (8 ≤ (8 : Byte).toNat ∧ 1 < (2 : Byte).toNat) ∧
      (upState.groupLocks[(7 : Fin 8)] = false ∧ upState.gates[(7 : Fin 8)] = .opened ∧
        upState.gates[(7 : Fin 8)] ≠ .closed) ∧
      { upState with groupLocks := Vector.replicate 8 true }.groupLocks[(7 : Fin 8)] = true := by
  decide +kernel

theorem test_witness_SetLockSetIdentAndLineReset :
    8 < (9 : Byte).toNat ∧ 4095 < (4096 : Word16).toNat ∧
      (∃ i e, (withEntry { entry40 .armed none with keyPort := .N }).entry i = some e ∧
        e.keyPort = .N ∧ e.streamId = 300) ∧
      (∀ i, upState.entry i = none) ∧ (0 : Byte) ≠ 1 :=
  ⟨by decide, by decide, ⟨40, _, by simp [withEntry]; rfl, rfl, rfl⟩, by decide +kernel, by decide⟩

theorem test_witness_BulkLoadEntersItsLoadPhase :
    upState.Ready ∧ ((255 : Word16).toNat ≤ 255 ∧ (255 : Word16).toNat + 1 ≤ 256) ∧
      256 < (255 : Word16).toNat + 2 ∧ 255 < (256 : Word16).toNat ∧
      upState.mgmt.nextIndex + upState.mgmt.reload ≤ 256 :=
  ⟨ready_upState, by decide, by decide, by decide, by decide⟩

/-- `loadPart`, a request waiting, with a count that remains and a next index. -/
def loadState (remaining index : Nat) : State :=
  { loadPart with
    mgmt := { loadPart.mgmt with remaining := remaining, nextIndex := index } }

theorem test_witness_LoadDataWritesTheNextEntry :
    ((loadState 2 11).running = true ∧ (loadState 2 11).mgmt.waiting ≠ none ∧
        (loadState 2 11).mgmt.executing = some (.loading ⟨4095, 40, .bulkLoad 10 4⟩) ∧
        1 < (loadState 2 11).mgmt.remaining ∧ (loadState 1 11).mgmt.remaining = 1 ∧
        (loadState 1 11).responses.length < 8 ∧ (loadState 1 11).mgmt.gapTimer = true ∧
        8 ≤ { loadState 1 11 with responses := eightResponses }.responses.length ∧
        upState.mgmt.gapTimer = false) ∧
      (∃ e, (loadState 2 11).checkWrite 11 (record 812 2 1) = .ok e) ∧
      (∃ st, (loadState 2 12).checkWrite 12 (record 812 2 1) = .error st) := by
  refine ⟨by decide +kernel, ?_, ?_⟩
  · cases h : (loadState 2 11).checkWrite 11 (record 812 2 1) with
    | ok e => exact ⟨e, rfl⟩
    | error st =>
      have hn : ((loadState 2 11).checkWrite 11 (record 812 2 1)).toOption.isSome = true := by
        decide +kernel
      rw [h] at hn
      cases hn
  · cases h : (loadState 2 12).checkWrite 12 (record 812 2 1) with
    | error st => exact ⟨st, rfl⟩
    | ok e =>
      have hn : ((loadState 2 12).checkWrite 12 (record 812 2 1)).toOption.isSome = false := by
        decide +kernel
      rw [h] at hn
      cases hn

theorem test_witness_AbortAnswersTheSlots :
    (loadPart.running = true ∧
        loadPart.mgmt.executing = some (.loading ⟨4095, 40, .bulkLoad 10 4⟩)) ∧
      (∀ bulk, (busyState none false).mgmt.executing ≠ some (.loading bulk)) :=
  ⟨by decide +kernel, fun _ h => (nomatch h)⟩

theorem test_abort_without_places_lets_the_bulk_answer_wait :
    let t := after (.abort 9) { loadPart with responses := eightResponses }
    t.responses = eightResponses ∧ t.mgmt.unanswered = 2 ∧ t.mgmt.waiting = none ∧
      t.mgmt.executing = some (.built ⟨4095, 40, 0x20, .aborted, 2, []⟩) := by decide +kernel

theorem test_witness_ResetWarmAndEscalationAnswerThenReset :
    upState.running = true ∧ upState.mgmt.escTimer = none ∧
      (let s := { upState with mgmt := { Mgmt.cold with heldEvent := true, escTimer := some 1 } }
       s.running = true ∧ s.mgmt.escTimer ≠ none) :=
  ⟨rfl, rfl, by decide +kernel⟩

theorem test_reset_warm_answers_the_slots_with_the_places_left :
    let t := after (.resetWarm 9) { loadPart with responses := eightResponses.drop 2 }
    (t.responses.drop 6).map (fun r => (r.tag, r.status, r.step)) =
      [(40, .aborted, 2), (42, .aborted, 0)] ∧ t.mgmt.unanswered = 0 := by decide +kernel

theorem test_witness_WarmResetLeavesTheWarmValues :
    upState.warmReset = upState.warmReset ∧
      (withEntry (entry40 .armed none)).groupLocks[(entry40 .armed none).group] = false ∧
      { upState with groupLocks := Vector.replicate 8 true }.groupLocks[(4 : Fin 8)] = true :=
  ⟨rfl, by decide +kernel, by decide +kernel⟩

end Sys2Proof.Tests
end

/-! SUPPORT. SOF at a receiver (R11, R12): what the row does in each of the receiver's states, and O16 from
them. -/

namespace Sys2Proof.Machine

/-! ### The operations SOF uses -/

/-- A running part takes SOF as a valid symbol and then by the receiver's state (R1, R12). -/
theorem exec_sof_of_running (s : State) (p : Port) (h : s.running = true) :
    exec (.sof p) s = .next ((s.modPort p PortState.symbol).takeSof p) :=
  congrArg Host.Outcome.next (live_of_running s _ h)

/-- A valid symbol leaves the receiver's state, so SOF goes by the state before it. -/
theorem receiver_modPort_symbol (s : State) (p : Port) :
    ((s.modPort p PortState.symbol).port p).receiver = (s.port p).receiver := by
  rw [modPort_port_self]
  rfl

theorem takeSof_of_off (s : State) (p : Port) (h : (s.port p).receiver = .off) :
    s.takeSof p = s := by
  simp only [State.takeSof, h]

theorem takeSof_of_fill (s : State) (p : Port) (b : BufId) (h : (s.port p).receiver = .fill b) :
    s.takeSof p = (s.store b []).count p .errored := by
  simp only [State.takeSof, h]

/-- HUNT and SKIP are the states in which SOF claims a buffer (R12). -/
theorem takeSof_of_hunt_or_skip (s : State) (p : Port)
    (h : (s.port p).receiver = .hunt ∨ (s.port p).receiver = .skip) : s.takeSof p = s.claim p := by
  rcases h with h | h <;> simp only [State.takeSof, h]

theorem claim_of_empty (s : State) (p : Port) (h : s.free = []) : s.claim p = s.noBuffer p := by
  simp only [State.claim, h]

theorem claim_of_cons (s : State) (p : Port) (b : BufId) (rest : List BufId)
    (h : s.free = b :: rest) :
    s.claim p =
      ({ s with free := rest }.store b []).modPort p fun ps => ps.setReceiver (.fill b) := by
  simp only [State.claim, h]

/-- Buffers and the free pool are apart from the ports: changes of both can be made in either order. -/
theorem modPort_with_free_contents (s : State) (p : Port) (f : PortState → PortState)
    (free : List BufId) (contents : Vector (List Byte) 160) :
    { s.modPort p f with free := free, contents := contents } =
      { s with free := free, contents := contents }.modPort p f := by
  cases p <;> rfl

/-- A store and a change of a port can be made in either order. -/
theorem store_modPort (s : State) (p : Port) (f : PortState → PortState) (b : BufId)
    (bytes : List Byte) : (s.modPort p f).store b bytes = (s.store b bytes).modPort p f := by
  cases p <;> rfl

/-! ### A SOF that finds no free buffer -/

/-- Apart from the ports, such a SOF sets POOL_EXHAUSTED, and the alert unit may place an ALERT (R12,
R193). -/
theorem noBuffer_modPort_frame (s : State) (p : Port) (f : PortState → PortState) :
    (s.modPort p f).noBuffer p =
      { s with
        portN := ((s.modPort p f).noBuffer p).portN
        portS := ((s.modPort p f).noBuffer p).portS
        causes := { s.causes with poolExhausted := true }
        alertSlot := ((s.modPort p f).noBuffer p).alertSlot
        alertNumber := ((s.modPort p f).noBuffer p).alertNumber } := by
  rw [State.noBuffer, alerting_frame]
  cases p <;> rfl

/-- The port counts the discard and enters SKIP (R12). -/
theorem noBuffer_port_self (s : State) (p : Port) :
    (s.noBuffer p).port p =
      { s.port p with
        receiver := .skip
        counters := (s.port p).counters.inc .noBuffer } := by
  rw [State.noBuffer, alerting_port]
  cases p <;> rfl

theorem noBuffer_port_opp (s : State) (p : Port) :
    (s.noBuffer p).port p.opp = s.port p.opp := by
  rw [State.noBuffer, alerting_port]
  cases p <;> rfl

/-- The alert unit sees POOL_EXHAUSTED set and nothing else: what the port has done before does not count
(R193). -/
theorem alerted_noBuffer_modPort (s : State) (p : Port) (f : PortState → PortState) :
    s.Alerted ((s.modPort p f).noBuffer p) := by
  apply alerted_alerting <;> cases p <;> rfl

/-! ### SOF by the receiver's state -/

/-- With a free buffer: the pool's first buffer is claimed and emptied (R12, assumption log 6). -/
theorem exec_sof_claims (s : State) (p : Port) (b : BufId) (rest : List BufId)
    (hrun : s.running = true)
    (hrecv : (s.port p).receiver = .hunt ∨ (s.port p).receiver = .skip)
    (hfree : s.free = b :: rest) :
    exec (.sof p) s =
      .next ({ s with free := rest, contents := s.contents.set b [] }.modPort p fun ps =>
        { ps with receiver := .fill b, upCount := 0, breakTaken := false }) := by
  have hclaim : (s.modPort p PortState.symbol).takeSof p =
      ({ s.modPort p PortState.symbol with free := rest }.store b []).modPort p
        fun ps => ps.setReceiver (.fill b) := by
    rw [takeSof_of_hunt_or_skip _ p (by rwa [receiver_modPort_symbol]),
      claim_of_cons _ p b rest (by rwa [modPort_free])]
  rw [exec_sof_of_running s p hrun, hclaim, State.store, modPort_with_free_contents,
    modPort_modPort, modPort_contents]
  rfl

/-- With an empty pool: the discard, taken on the state the valid symbol leaves (R12). -/
theorem exec_sof_of_empty_pool (s : State) (p : Port) (hrun : s.running = true)
    (hrecv : (s.port p).receiver = .hunt ∨ (s.port p).receiver = .skip) (hfree : s.free = []) :
    exec (.sof p) s = .next ((s.modPort p PortState.symbol).noBuffer p) := by
  rw [exec_sof_of_running s p hrun,
    takeSof_of_hunt_or_skip _ p (by rwa [receiver_modPort_symbol]),
    claim_of_empty _ p (by rwa [modPort_free])]

/-- In FILL: the frame in progress is errored and its buffer is kept and emptied (R12). -/
theorem exec_sof_of_filling (s : State) (p : Port) (b : BufId) (h : s.Filling p b) :
    exec (.sof p) s =
      .next ({ s with contents := s.contents.set b [] }.modPort p fun ps =>
        { ps with
          upCount := 0
          breakTaken := false
          counters := { ps.counters with errored := satInc ps.counters.errored } }) := by
  obtain ⟨hrun, hrecv⟩ := h
  rw [exec_sof_of_running s p hrun, takeSof_of_fill _ p b (by rwa [receiver_modPort_symbol]),
    store_modPort, State.count, modPort_modPort]
  rfl

/-- In OFF: nothing beyond the valid symbol (R11). -/
theorem exec_sof_of_off (s : State) (p : Port) (hrun : s.running = true)
    (hrecv : (s.port p).receiver = .off) :
    exec (.sof p) s = .next (s.modPort p PortState.symbol) := by
  rw [exec_sof_of_running s p hrun, takeSof_of_off _ p (by rwa [receiver_modPort_symbol])]

/-- Settles O16, by the receiver's four states. In HUNT and SKIP the pool decides: its head is the buffer
claimed, and where it is empty the next state is the discard's. -/
theorem sofByReceiverState : Obligations.SofByReceiverState := by
  refine ⟨fun s p hrun hrecv hfree => ?claimed, fun s p hrun hrecv hfree => ?discarded,
    exec_sof_of_filling, exec_sof_of_off⟩
  case claimed =>
    obtain ⟨b, rest, hb⟩ := List.exists_cons_of_ne_nil hfree
    refine ⟨b, by simp [hb], ?_⟩
    rw [exec_sof_claims s p b rest hrun hrecv hb, hb, List.erase_cons_head]
  case discarded =>
    refine ⟨_, exec_sof_of_empty_pool s p hrun hrecv hfree, noBuffer_modPort_frame s p _, ?_, ?_,
      alerted_noBuffer_modPort s p _⟩
    · rw [noBuffer_port_opp, modPort_port_opp]
    · rw [noBuffer_port_self, modPort_port_self]
      rfl

end Sys2Proof.Machine

/-! SUPPORT. ARM-ENTRY, SUSPEND-ENTRY and FREE-ENTRY (R24 to R26): a slot command at a ready management
unit, the effect of each of the three by the entry's state and lock, and O46 from them. -/

namespace Sys2Proof.Machine

/-! ### A request row at a ready management unit -/

/-- A request row is the arrival of its command (R150). -/
theorem exec_of_requestOf {row : Instr} {tag : Byte} {c : Command} (s : State)
    (h : requestOf row = some (tag, c)) : exec row s = arrive tag c s := by
  cases row <;> cases h <;> rfl

/-- A ready management unit executes a slot command at its arrival: the next state is the effect's, with
the response behind the others, when the effect leaves the management unit, the response queue and the
management stream id alone (R151 to R155). -/
theorem exec_of_ready {s : State} {tag : Byte} (row : Instr) (c : Command) (r : SlotResult)
    (hready : s.Ready) (hrow : requestOf row = some (tag, c)) (hslot : isSlotCommand c = true)
    (hbulk : ∀ start count, c ≠ .bulkLoad start count) (hrun : runSlot c s = r)
    (hkeep : r.state.mgmt = s.mgmt ∧ r.state.responses = s.responses ∧ r.state.mgmtId = s.mgmtId) :
    exec row s = .next (r.state.replied tag c.code r.status 0 r.data) := by
  obtain ⟨⟨hrunning, hexec, hwait, hplace⟩, hheld⟩ := hready
  obtain ⟨hmgmt, hresp, hid⟩ := hkeep
  have hadmit : s.mgmt.heldEvent = true → whileHeld c = true := by simp [hheld]
  rw [exec_of_requestOf s hrow, arrive, live_of_running s _ hrunning,
    takeCommand_slot s r.state tag c r.status r.data hslot hbulk hexec hadmit hrun
      (hmgmt ▸ hexec) (hmgmt ▸ hwait) hresp hplace, State.replied, hid]

/-! ### The three commands by the entry's state and lock -/

/-- Every state of a written entry other than SUSPENDED is an active one (section 2.3). -/
theorem active_of_ne_suspended {st : EntryState} (h : st ≠ .suspended) : st.active = true := by
  cases st with
  | suspended => exact absurd rfl h
  | armed | tracking | overdue | lapsed => rfl

theorem active_of_eq_suspended {st : EntryState} (h : st = .suspended) : st.active = false := by
  rw [h]; rfl

section
variable {s : State} {i : Byte} {e : Entry}

theorem slotArmEntry_of_free (h : s.entry i = none) : slotArmEntry i s = s.answer .entryState := by
  simp only [slotArmEntry, h]

theorem slotArmEntry_of_locked (h : s.entry i = some e) (hl : s.lockedEntry e = true) :
    slotArmEntry i s = s.answer .locked := by
  simp only [slotArmEntry, h, hl, if_true]

theorem slotArmEntry_of_active (h : s.entry i = some e) (hl : s.lockedEntry e = false)
    (ha : e.state ≠ .suspended) : slotArmEntry i s = s.done := by
  simp [slotArmEntry, h, hl, active_of_ne_suspended ha]

theorem slotArmEntry_of_suspended (h : s.entry i = some e) (hl : s.lockedEntry e = false)
    (hs : e.state = .suspended) : slotArmEntry i s = (s.setEntry i (some e.arm)).done := by
  simp [slotArmEntry, h, hl, active_of_eq_suspended hs]

theorem slotSuspendEntry_of_free (h : s.entry i = none) :
    slotSuspendEntry i s = s.answer .entryState := by
  simp only [slotSuspendEntry, h]

theorem slotSuspendEntry_of_locked (h : s.entry i = some e) (hl : s.lockedEntry e = true) :
    slotSuspendEntry i s = s.answer .locked := by
  simp only [slotSuspendEntry, h, hl, if_true]

theorem slotSuspendEntry_of_suspended (h : s.entry i = some e) (hl : s.lockedEntry e = false)
    (hs : e.state = .suspended) : slotSuspendEntry i s = s.done := by
  simp [slotSuspendEntry, h, hl, active_of_eq_suspended hs]

theorem slotSuspendEntry_of_active (h : s.entry i = some e) (hl : s.lockedEntry e = false)
    (ha : e.state ≠ .suspended) :
    slotSuspendEntry i s =
      ((s.setEntry i (some { e with state := .suspended })).unlist i).done := by
  simp [slotSuspendEntry, h, hl, active_of_ne_suspended ha]

theorem slotFreeEntry_of_free (h : s.entry i = none) : slotFreeEntry i s = s.done := by
  simp only [slotFreeEntry, h]

theorem slotFreeEntry_of_locked (h : s.entry i = some e) (hl : s.lockedEntry e = true) :
    slotFreeEntry i s = s.answer .locked := by
  simp only [slotFreeEntry, h, hl, if_true]

theorem slotFreeEntry_of_suspended (h : s.entry i = some e) (hl : s.lockedEntry e = false)
    (hs : e.state = .suspended) : slotFreeEntry i s = (s.setEntry i none).done := by
  simp [slotFreeEntry, h, hl, active_of_eq_suspended hs]

theorem slotFreeEntry_of_active (h : s.entry i = some e) (hl : s.lockedEntry e = false)
    (ha : e.state ≠ .suspended) : slotFreeEntry i s = s.answer .entryState := by
  simp [slotFreeEntry, h, hl, active_of_ne_suspended ha]

end

/-- Settles O46, command by command: FREE, locked, and the two states an unlocked entry is told apart
by. -/
theorem armSuspendFreeByStateAndLock : Obligations.ArmSuspendFreeByStateAndLock := by
  refine ⟨fun s tag i hready => ?arm, fun s tag i hready => ?suspend, fun s tag i hready => ?free⟩
  case arm =>
    have row {r : SlotResult} :=
      exec_of_ready (.armEntry tag i) (.armEntry i) r hready rfl rfl nofun
    exact
      ⟨fun hn => row (slotArmEntry_of_free hn) ⟨rfl, rfl, rfl⟩,
        fun e he =>
          ⟨fun hl => row (slotArmEntry_of_locked he hl) ⟨rfl, rfl, rfl⟩,
            fun hl ha => row (slotArmEntry_of_active he hl ha) ⟨rfl, rfl, rfl⟩,
            fun hl hs => row (slotArmEntry_of_suspended he hl hs) ⟨rfl, rfl, rfl⟩⟩⟩
  case suspend =>
    have row {r : SlotResult} :=
      exec_of_ready (.suspendEntry tag i) (.suspendEntry i) r hready rfl rfl nofun
    exact
      ⟨fun hn => row (slotSuspendEntry_of_free hn) ⟨rfl, rfl, rfl⟩,
        fun e he =>
          ⟨fun hl => row (slotSuspendEntry_of_locked he hl) ⟨rfl, rfl, rfl⟩,
            fun hl hs => row (slotSuspendEntry_of_suspended he hl hs) ⟨rfl, rfl, rfl⟩,
            fun hl ha => row (slotSuspendEntry_of_active he hl ha) ⟨rfl, rfl, rfl⟩⟩⟩
  case free =>
    have row {r : SlotResult} :=
      exec_of_ready (.freeEntry tag i) (.freeEntry i) r hready rfl rfl nofun
    exact
      ⟨fun hn => row (slotFreeEntry_of_free hn) ⟨rfl, rfl, rfl⟩,
        fun e he =>
          ⟨fun hl => row (slotFreeEntry_of_locked he hl) ⟨rfl, rfl, rfl⟩,
            fun hl hs => row (slotFreeEntry_of_suspended he hl hs) ⟨rfl, rfl, rfl⟩,
            fun hl ha => row (slotFreeEntry_of_active he hl ha) ⟨rfl, rfl, rfl⟩⟩⟩

end Sys2Proof.Machine

/-! SUPPORT. The deadlines and arming (R67 to R71, R100): O34 from what settling, the repeat deadline and the
re-expressed fixed deadline are. -/

namespace Sys2Proof.Machine

/-- Raising to 1 and then lowering to 255, by cases. -/
theorem min_max_eq_ite (n : Nat) :
    min 255 (max 1 n) = if n = 0 then 1 else if 255 < n then 255 else n := by
  split_ifs <;> omega

theorem selected_eq_ite (t : Tracker) :
    t.selected = if t.basis = .last then t.last else t.prev := by
  cases h : t.basis <;> simp [Tracker.selected, h]

theorem settle_of_learn (t : Tracker) (sat : Bool) (h : t.mode = .learn) :
    t.settle sat =
      { t with
        deadline := min 255 (max 1 t.learned)
        overflow := sat || decide (255 < t.learned) } := by
  simp only [Tracker.settle, h]

theorem settle_of_fixed (t : Tracker) (sat : Bool) (h : t.mode = .fixed) :
    t.settle sat = { t with deadline := t.fixedDeadline, overflow := sat } := by
  simp only [Tracker.settle, h]

theorem repeatDeadline_of_learn (t : Tracker) (h : t.mode = .learn) :
    t.repeatDeadline = if t.selected = 0 then 1 else t.selected := by
  simp only [Tracker.repeatDeadline, h]
  split_ifs <;> omega

theorem repeatDeadline_of_fixed (t : Tracker) (h : t.mode = .fixed) :
    t.repeatDeadline = t.fixedDeadline := by
  simp only [Tracker.repeatDeadline, h]

/-- At the base exponent the fixed deadline stands as it is (R71 step 1). -/
theorem rebased_of_eq (t : Tracker) (h : t.exp = t.baseExp) :
    t.rebased = (t.fixedDeadline, false) := by
  simp [Tracker.rebased, h, halvedTimes]

/-- Above the base exponent the fixed deadline is doubled down to it (R71 step 1). -/
theorem rebased_of_above (t : Tracker) (h : t.baseExp < t.exp) :
    t.rebased = doubledTimes (t.exp - t.baseExp) t.fixedDeadline := by
  simp [Tracker.rebased, h]

/-- Below the base exponent the fixed deadline is halved up to it, and nothing saturates (R71 step 1). -/
theorem rebased_of_below (t : Tracker) (h : t.exp < t.baseExp) :
    t.rebased = (Nat.iterate halvedKeep (t.baseExp - t.exp) t.fixedDeadline, false) := by
  simp [Tracker.rebased, Nat.not_lt_of_gt h, halvedTimes_eq]

/-- Settles O34: settling and the repeat deadline by mode, and arming by where the exponent stands to its
base. -/
theorem deadlinesAndArming : Obligations.DeadlinesAndArming := by
  refine ⟨fun t sat => ⟨fun c hc hlearn => ?learned, settle_of_fixed t sat⟩,
    fun t => ⟨fun hlearn hlast => ?last, fun hlearn hprev => ?previous, repeatDeadline_of_fixed t⟩,
    fun t => ⟨t.rebased.1, t.rebased.2, rfl, fun heq => ?base, fun habove => ?above,
      fun hbelow => ?below⟩⟩
  case learned =>
    subst hc
    rw [settle_of_learn t sat hlearn, ← min_max_eq_ite, ← selected_eq_ite]
    rfl
  case last => simpa [Tracker.selected, hlast] using repeatDeadline_of_learn t hlearn
  case previous => simpa [Tracker.selected, hprev] using repeatDeadline_of_learn t hlearn
  case base => simp [rebased_of_eq t heq]
  case above =>
    rw [rebased_of_above t habove, doubledTimes_fst, doubledTimes_snd]
    exact ⟨rfl, by simp only [saturates, decide_eq_true_eq]; exact Iff.rfl⟩
  case below =>
    rw [rebased_of_below t hbelow]
    exact ⟨rfl, rfl⟩

end Sys2Proof.Machine

/-! SUPPORT. The ranges of a tracker (R61, R62) through each of its operations: arming, tuning, an arrival,
a tick, a slow-down and a lapse. -/

namespace Sys2Proof.Machine

/-! ### What an operation keeps of soundness between its steps -/

/-- Soundness but for the deadline and the misses, which the last steps of a claim set. -/
structure Tracker.Ranged (t : Tracker) : Prop where
  settings : t.SettingsInRange
  exp : t.exp ≤ 15
  elapsed : t.elapsed ≤ 255
  last : t.last ≤ 255
  prev : t.prev ≤ 255
  requests : t.mode = .learn → t.scaleUp = false ∧ t.scaleDown = false
  preload : ∀ u, t.preload = some u → u.InRange ∧ u.isEmpty = false

/-- A ranged tracker whose deadline is in its range. -/
structure Tracker.Settled (t : Tracker) : Prop extends t.Ranged where
  deadline : 1 ≤ t.deadline ∧ t.deadline ≤ 255

theorem sound_iff_settled (t : Tracker) (st : EntryState) :
    t.Sound st ↔ t.Settled ∧ t.misses ≤ t.missLimit ∧ t.FitsState st := by
  constructor
  · rintro ⟨hset, ⟨hexp, hel, hdl, hmiss, hlast, hprev⟩, hfit, hreq, hpre⟩
    exact ⟨⟨⟨hset, hexp, hel, hlast, hprev, hreq, hpre⟩, hdl⟩, hmiss, hfit⟩
  · rintro ⟨⟨⟨hset, hexp, hel, hlast, hprev, hreq, hpre⟩, hdl⟩, hmiss, hfit⟩
    exact ⟨hset, ⟨hexp, hel, hdl, hmiss, hlast, hprev⟩, hfit, hreq, hpre⟩

theorem Tracker.Sound.settled {t : Tracker} {st : EntryState} (h : t.Sound st) : t.Settled :=
  ((sound_iff_settled t st).1 h).1

theorem Tracker.Sound.misses_le {t : Tracker} {st : EntryState} (h : t.Sound st) :
    t.misses ≤ t.missLimit :=
  ((sound_iff_settled t st).1 h).2.1

theorem Tracker.Sound.fits {t : Tracker} {st : EntryState} (h : t.Sound st) : t.FitsState st :=
  ((sound_iff_settled t st).1 h).2.2

theorem Tracker.Ranged.fixedDeadline {t : Tracker} (h : t.Ranged) :
    1 ≤ t.fixedDeadline ∧ t.fixedDeadline ≤ 255 := by
  obtain ⟨_, _, _, hfixed, _⟩ := h.settings
  exact hfixed

theorem Tracker.Ranged.missLimit_pos {t : Tracker} (h : t.Ranged) : 1 ≤ t.missLimit := by
  obtain ⟨_, _, _, _, hlimit, _⟩ := h.settings
  exact hlimit

/-- Settings that change the fixed deadline alone stay in their ranges. -/
theorem Tracker.Ranged.settings_fixedDeadline {t : Tracker} (h : t.Ranged) {n : Nat}
    (hn : 1 ≤ n ∧ n ≤ 255) : ({ t with fixedDeadline := n } : Tracker).SettingsInRange := by
  obtain ⟨hbase, hseed, hweight, _, hlimit⟩ := h.settings
  exact ⟨hbase, hseed, hweight, hn, hlimit⟩

theorem doubled_range {n : Nat} (h : 1 ≤ n ∧ n ≤ 255) : 1 ≤ doubled n ∧ doubled n ≤ 255 :=
  ⟨h.1.trans (le_doubled n h.2), doubled_le n⟩

theorem halvedKeep_range {n : Nat} (h : 1 ≤ n ∧ n ≤ 255) :
    1 ≤ halvedKeep n ∧ halvedKeep n ≤ 255 :=
  ⟨halvedKeep_pos n, (halvedKeep_le n h.1).trans h.2⟩

/-- A repeat deadline is a capture or the fixed deadline, or 1 (R100). -/
theorem Tracker.Ranged.repeatDeadline_le {t : Tracker} (h : t.Ranged) : t.repeatDeadline ≤ 255 := by
  cases hm : t.mode with
  | fixed => exact (repeatDeadline_of_fixed t hm).trans_le h.fixedDeadline.2
  | learn =>
    have hlast := h.last
    have hprev := h.prev
    rw [repeatDeadline_of_learn t hm, selected_eq_ite]
    split_ifs <;> omega

/-- Settling puts the deadline in its range and moves nothing else that is ranged (R67). -/
theorem Tracker.Ranged.settle {t : Tracker} (h : t.Ranged) (sat : Bool) : (t.settle sat).Settled := by
  have hdeadline := settle_deadline_range t sat h.fixedDeadline
  rw [settle_frame] at hdeadline ⊢
  exact
    ⟨⟨h.settings, h.exp, h.elapsed, h.last, h.prev, h.requests, h.preload⟩, hdeadline⟩

/-- Misses are not ranged, and an elapsed count in range may stand in for another. -/
theorem Tracker.Settled.setCounts {t : Tracker} (h : t.Settled) {n m : Nat} (hn : n ≤ 255) :
    ({ t with elapsed := n, misses := m } : Tracker).Settled :=
  ⟨⟨h.settings, h.exp, hn, h.last, h.prev, h.requests, h.preload⟩, h.deadline⟩

@[simp] theorem settle_misses (t : Tracker) (sat : Bool) : (t.settle sat).misses = t.misses := by
  rw [settle_frame]

@[simp] theorem settle_missLimit (t : Tracker) (sat : Bool) :
    (t.settle sat).missLimit = t.missLimit := by
  rw [settle_frame]

@[simp] theorem settle_elapsed (t : Tracker) (sat : Bool) :
    (t.settle sat).elapsed = t.elapsed := by
  rw [settle_frame]

/-! ### Arming and tuning -/

/-- An armed tracker is sound in the states an armed or written entry stands in (R71). -/
theorem Tracker.Ranged.arm {t : Tracker} (h : t.Ranged) {st : EntryState}
    (hst : st = .armed ∨ st = .suspended) : t.arm.Sound st := by
  obtain ⟨hbase, hseed, hweight, hfixed, hlimit⟩ := h.settings
  have hsettled : t.arm.Settled := by
    refine Tracker.Ranged.settle ?_ _
    exact ⟨⟨hbase, hseed, hweight, rebased_range t hfixed, hlimit⟩, hbase, Nat.zero_le _, hseed.2,
      hseed.2, fun _ => ⟨rfl, rfl⟩, nofun⟩
  have hmisses : t.arm.misses = 0 := settle_misses _ _
  refine (sound_iff_settled _ _).2 ⟨hsettled, hmisses ▸ Nat.zero_le _, ?_⟩
  rcases hst with rfl | rfl
  · exact hmisses
  · trivial

/-- A given value or the one that stands has what both have. -/
theorem getD_of_forall {α : Type} {P : α → Prop} {o : Option α} {a : α}
    (hgiven : ∀ x, o = some x → P x) (ha : P a) : P (o.getD a) := by
  cases o with
  | none => exact ha
  | some x => exact hgiven x rfl

/-- Tuning values in range keep a tracker ranged: the switch to LEARN clears both scale requests (R86,
R90). -/
theorem Tracker.Ranged.applyTune {t : Tracker} (h : t.Ranged) {u : Tune} (hu : u.InRange) :
    (t.applyTune u).Ranged := by
  obtain ⟨hbase, hseed, hweight, hfixed, hlimit⟩ := h.settings
  obtain ⟨huweight, hulimit, hufixed⟩ := hu
  refine ⟨⟨hbase, hseed, getD_of_forall huweight hweight, getD_of_forall hufixed hfixed,
    getD_of_forall hulimit hlimit⟩, h.exp, h.elapsed, h.last, h.prev, fun hlearn => ?_, h.preload⟩
  cases hm : t.mode with
  | learn => simp [Tracker.applyTune, h.requests hm]
  | fixed =>
    have hswitch : u.mode = some .learn := by
      cases hum : u.mode <;> simp_all [Tracker.applyTune]
    simp [Tracker.applyTune, hm, hswitch]

/-- The same tracker with no preload is ranged, whatever its misses. -/
theorem Tracker.Ranged.clearPreload {t : Tracker} (h : t.Ranged) {m : Nat} :
    ({ t with preload := none, misses := m } : Tracker).Ranged :=
  ⟨h.settings, h.exp, h.elapsed, h.last, h.prev, h.requests, nofun⟩

/-- A tuning of an entry that does not count is taken at once: the misses are lowered to the new limit
(R86). -/
theorem Tracker.Sound.tuneNow {t : Tracker} {st : EntryState} (h : t.Sound st) {u : Tune}
    (hu : u.InRange) (hst : st = .suspended ∨ st = .armed) : (t.tuneNow u).Sound st := by
  have hsettled : (t.tuneNow u).Settled :=
    (h.settled.toRanged.applyTune hu).clearPreload.settle false
  have hmisses : (t.tuneNow u).misses = min t.misses (t.tuneNow u).missLimit := by
    simp [Tracker.tuneNow, Tracker.applyTune]
  refine (sound_iff_settled _ _).2 ⟨hsettled, hmisses ▸ Nat.min_le_right _ _, ?_⟩
  rcases hst with rfl | rfl
  · trivial
  · have hzero : t.misses = 0 := h.fits
    exact hmisses.trans (by rw [hzero, Nat.zero_min])

/-- A tuning of a counting or lapsed entry waits as its preload (R87, R88). -/
theorem Tracker.Sound.tuneLater {t : Tracker} {st : EntryState} (h : t.Sound st) {u : Tune}
    (hu : u.InRange) : (t.tuneLater u).Sound st := by
  obtain ⟨hset, hrun, hfit, hreq, _⟩ := h
  refine ⟨hset, hrun, ?_, hreq, fun v hv => ?_⟩
  · cases st <;> exact hfit
  · cases he : u.isEmpty with
    | true => simp [Tracker.tuneLater, he] at hv
    | false =>
      obtain rfl : u = v := by simpa [Tracker.tuneLater, he] using hv
      exact ⟨hu, he⟩

/-- A scale request stands in FIXED alone (R92). -/
theorem Tracker.Sound.request {t : Tracker} {st : EntryState} (h : t.Sound st)
    (hm : t.mode ≠ .learn) (up : Bool) : (t.request up).Sound st := by
  obtain ⟨hset, hrun, hfit, _, hpre⟩ := h
  cases up <;>
    exact ⟨hset, hrun, by cases st <;> exact hfit, fun hlearn => absurd hlearn hm, hpre⟩

/-! ### An arrival -/

theorem Tracker.Ranged.capture {t : Tracker} (h : t.Ranged) : t.capture.Ranged :=
  ⟨h.settings, h.exp, h.elapsed, h.elapsed, h.last, h.requests, h.preload⟩

theorem Tracker.Ranged.takePreload {t : Tracker} (h : t.Ranged) : t.takePreload.Ranged := by
  cases hp : t.preload with
  | none => rwa [takePreload_of_none t hp]
  | some u =>
    obtain ⟨hu, _⟩ := h.preload u hp
    simpa only [Tracker.takePreload, hp] using (h.applyTune hu).clearPreload

theorem Tracker.Ranged.speedUp {t : Tracker} (h : t.Ranged) : t.speedUp.Ranged :=
  ⟨h.settings_fixedDeadline (doubled_range h.fixedDeadline), (Nat.sub_le _ _).trans h.exp, h.elapsed,
    doubled_le _, doubled_le _, h.requests, h.preload⟩

/-- The common part of a slow-down and of an up request: one exponent more, every count halved (R79,
R95). -/
theorem Tracker.Ranged.halved {t : Tracker} (h : t.Ranged) (hexp : t.exp < 15) :
    ({ t with
        exp := t.exp + 1
        elapsed := t.elapsed / 2
        last := t.last / 2
        prev := t.prev / 2
        fixedDeadline := halvedKeep t.fixedDeadline } : Tracker).Ranged :=
  ⟨h.settings_fixedDeadline (halvedKeep_range h.fixedDeadline), hexp,
    (Nat.div_le_self _ _).trans h.elapsed, (Nat.div_le_self _ _).trans h.last,
    (Nat.div_le_self _ _).trans h.prev, h.requests, h.preload⟩

theorem Tracker.Ranged.scaleUpStep {t : Tracker} (h : t.Ranged) (hm : t.mode = .fixed) :
    t.scaleUpStep.Ranged := by
  have hreq : t.mode ≠ .learn := by simp [hm]
  unfold Tracker.scaleUpStep
  split
  · exact ⟨h.settings, h.exp, h.elapsed, h.last, h.prev, fun hl => absurd hl hreq, h.preload⟩
  · have hhalved := h.halved (by omega)
    exact ⟨hhalved.settings, hhalved.exp, hhalved.elapsed, hhalved.last, hhalved.prev,
      fun hl => absurd hl hreq, h.preload⟩

theorem Tracker.Ranged.scaleDownStep {t : Tracker} (h : t.Ranged) (hm : t.mode = .fixed) :
    t.scaleDownStep.Ranged := by
  have hreq : t.mode ≠ .learn := by simp [hm]
  unfold Tracker.scaleDownStep
  split
  · exact ⟨h.settings, h.exp, h.elapsed, h.last, h.prev, fun hl => absurd hl hreq, h.preload⟩
  · exact ⟨h.settings_fixedDeadline (doubled_range h.fixedDeadline), (Nat.sub_le _ _).trans h.exp,
      doubled_le _, doubled_le _, doubled_le _, fun hl => absurd hl hreq, h.preload⟩

theorem Tracker.Ranged.scaleStep {t : Tracker} (h : t.Ranged) (hm : t.mode = .fixed) :
    t.scaleStep.Ranged := by
  unfold Tracker.scaleStep
  split_ifs
  · exact h.scaleUpStep hm
  · exact h.scaleDownStep hm
  · exact h

/-- The rescale or scale step of an arrival leaves the deadline settled (R74, R76). -/
theorem Tracker.Ranged.rescale {t : Tracker} (h : t.Ranged) : t.rescale.Settled := by
  cases hm : t.mode with
  | fixed => simpa only [Tracker.rescale, hm] using (h.scaleStep hm).settle _
  | learn =>
    simp only [Tracker.rescale, hm]
    split
    · exact h.speedUp.settle _
    · exact h.settle _

/-- With its counts at 0 a settled tracker fits a TRACKING entry. -/
theorem Tracker.Settled.endCounts {t : Tracker} (h : t.Settled) : t.endCounts.Sound .tracking :=
  (sound_iff_settled _ _).2 ⟨h.setCounts (Nat.zero_le _), Nat.zero_le _, h.deadline.1, rfl⟩

theorem Tracker.Ranged.arriveTracking {t : Tracker} (h : t.Ranged) :
    t.arriveTracking.Sound .tracking :=
  h.capture.takePreload.rescale.endCounts

theorem Tracker.Ranged.arriveOther {t : Tracker} (h : t.Ranged) : t.arriveOther.Sound .tracking :=
  (h.takePreload.settle false).endCounts

/-! ### Ticks, slow-downs and lapses -/

/-- A tracker that may take one more miss. -/
structure Tracker.MayMiss (t : Tracker) : Prop extends t.Settled where
  misses : t.misses < t.missLimit

/-- The tracker of a counting entry may take a miss (R101). -/
theorem Tracker.Sound.mayMiss {t : Tracker} {st : EntryState} (h : t.Sound st)
    (hst : st.tracked = true) : t.MayMiss := by
  have hlimit := h.settled.missLimit_pos
  have hfit := h.fits
  refine ⟨h.settled, ?_⟩
  cases st with
  | tracking =>
    obtain ⟨_, hzero⟩ := hfit
    omega
  | overdue =>
    obtain ⟨_, _, hbelow⟩ := hfit
    exact hbelow
  | suspended | armed | lapsed => cases hst

/-- The same tracker at another elapsed count in range. -/
theorem Tracker.MayMiss.elapsed_set {t : Tracker} (h : t.MayMiss) {n : Nat} (hn : n ≤ 255) :
    ({ t with elapsed := n } : Tracker).MayMiss :=
  ⟨h.toSettled.setCounts hn, h.misses⟩

theorem Tracker.MayMiss.slowDown {t : Tracker} (h : t.MayMiss) (hexp : t.exp < 15) :
    t.slowDown.MayMiss :=
  ⟨(h.halved hexp).settle false, by simpa [Tracker.slowDown] using h.misses⟩

theorem slowsAt_iff (t : Tracker) (st : EntryState) (n : Nat) :
    t.slowsAt st n = true ↔ st = .tracking ∧ t.mode = .learn ∧ t.exp < 15 ∧ n = 255 := by
  simp [Tracker.slowsAt, and_assoc]

/-- Run on to its next lapse, through its slow-downs, a tracker may still take the miss (R79). -/
theorem Tracker.MayMiss.toDeadline {t : Tracker} (h : t.MayMiss) (fuel : Nat) :
    (Tracker.toDeadline fuel t).MayMiss := by
  induction fuel generalizing t with
  | zero => exact h
  | succ fuel ih =>
    unfold Tracker.toDeadline
    split
    next hslow =>
      obtain ⟨_, _, hexp, _⟩ := (slowsAt_iff _ _ _).1 hslow
      have hslowed := (h.elapsed_set (n := 255) le_rfl).slowDown hexp
      dsimp only
      split
      · exact hslowed
      · exact ih hslowed
    next => exact h

theorem Tracker.MayMiss.untilLapse {t : Tracker} (h : t.MayMiss) (st : EntryState) :
    (t.untilLapse st).MayMiss := by
  unfold Tracker.untilLapse
  split
  · exact h.toDeadline _
  · exact h

/-- A tick of a counting entry (R64, R79, R99). Its elapsed count meets the awaited deadline, and the
lapse is due; or it stays below, and the tracker fits the entry's state. -/
theorem Tracker.Sound.tick {t : Tracker} {st : EntryState} (h : t.Sound st)
    (hst : st.tracked = true) :
    (t.tick st).1.MayMiss ∧ ((t.tick st).2 = false → (t.tick st).1.Sound st) := by
  have hmiss := h.mayMiss hst
  have hfit := h.fits
  have hdeadline := hmiss.deadline
  have hrepeat := hmiss.toRanged.repeatDeadline_le
  have hbelow : t.elapsed + 1 ≤ 255 := by
    cases st with
    | tracking => obtain ⟨hel, _⟩ := hfit; omega
    | overdue => obtain ⟨hel, _⟩ := hfit; omega
    | suspended | armed | lapsed => cases hst
  have hticked := hmiss.elapsed_set hbelow
  unfold Tracker.tick
  dsimp only
  split
  next hslow =>
    obtain ⟨rfl, _, hexp, hfull⟩ := (slowsAt_iff _ _ _).1 hslow
    have hslowed := hticked.slowDown hexp
    refine ⟨hslowed, fun hlater => (sound_iff_settled _ _).2
      ⟨hslowed.toSettled, hslowed.misses.le, ?_, ?_⟩⟩
    · have hover : 127 < (Tracker.slowDown { t with elapsed := t.elapsed + 1 }).deadline := by
        simpa using hlater
      have hhalf : (Tracker.slowDown { t with elapsed := t.elapsed + 1 }).elapsed = 127 := by
        simp [Tracker.slowDown, hfull]
      exact hhalf.trans_lt hover
    · obtain ⟨_, hzero⟩ := hfit
      simpa [Tracker.slowDown] using hzero
  next =>
    split
    next htracking =>
      subst htracking
      obtain ⟨hel, hzero⟩ := hfit
      refine ⟨hticked, fun hearly => (sound_iff_settled _ _).2
        ⟨hticked.toSettled, hticked.misses.le, ?_, hzero⟩⟩
      have hne : t.elapsed + 1 ≠ t.deadline := by simpa using hearly
      show t.elapsed + 1 < t.deadline
      omega
    next htracking =>
      obtain rfl : st = .overdue := by cases st <;> simp_all [EntryState.tracked]
      obtain ⟨hel, hone, hlimit⟩ := hfit
      refine ⟨hticked, fun hearly => (sound_iff_settled _ _).2
        ⟨hticked.toSettled, hticked.misses.le, ?_, hone, hlimit⟩⟩
      have hne : t.elapsed + 1 ≠ t.repeatDeadline := of_decide_eq_false hearly
      show t.elapsed + 1 < t.repeatDeadline
      omega

end Sys2Proof.Machine

/-! SUPPORT. Sound entries (R61, R62): every change of an entry that the part makes, and every write of a
record, leaves a sound entry. -/

namespace Sys2Proof.Machine

/-! ### Counters, checks and states -/

theorem Entry.Sound.expSeq_absent {e : Entry} (h : e.Sound) (hoff : e.seqCheck = false) :
    e.expSeq = none := by
  obtain ⟨hseq, _, _⟩ := h
  exact hseq hoff

theorem Entry.Sound.tracker_sound {e : Entry} (h : e.Sound) {t : Tracker} (ht : e.tracker = some t) :
    t.Sound e.state := by
  obtain ⟨_, _, htracker⟩ := h
  exact htracker t ht

/-- Soundness does not look at an entry's counters. -/
theorem Entry.Sound.counters {e : Entry} (h : e.Sound) (c : EntryCounters) :
    ({ e with counters := c } : Entry).Sound := h

theorem Entry.Sound.count {e : Entry} (h : e.Sound) (c : EntryCounter) : (e.count c).Sound :=
  h.counters _

theorem Entry.Sound.countPlaced {e : Entry} (h : e.Sound) (x : Placed) : (e.countPlaced x).Sound := by
  cases x with
  | queued => exact h.count .passed
  | full => exact h.count .dropped
  | down => exact h

/-- An expected seq is set only while the sequence check is ON (R49, R50). -/
theorem Entry.Sound.expectNext {e : Entry} (h : e.Sound) (seq : Byte) : (e.expectNext seq).Sound := by
  unfold Entry.expectNext
  split
  next hcheck =>
    obtain ⟨_, hstate, htracker⟩ := h
    exact ⟨fun hoff => absurd hcheck (by simpa using hoff), hstate, htracker⟩
  next => exact h

/-- A written entry with another tracker, sound in its state. -/
theorem Entry.Sound.setTracker {e : Entry} (h : e.Sound) {t : Tracker} (ht : t.Sound e.state) :
    ({ e with tracker := some t } : Entry).Sound :=
  ⟨h.expSeq_absent, nofun, fun _ heq => Option.some.inj heq ▸ ht⟩

/-- A suspended entry's tracker stands as it is (R25). -/
theorem Entry.Sound.suspend {e : Entry} (h : e.Sound) :
    ({ e with state := .suspended } : Entry).Sound := by
  refine ⟨h.expSeq_absent, fun _ => ⟨nofun, nofun⟩, fun t ht => ?_⟩
  have hsound := h.tracker_sound ht
  exact (sound_iff_settled t _).2 ⟨hsound.settled, hsound.misses_le, trivial⟩

/-- Arming leaves a sound entry (R24). -/
theorem Entry.Sound.arm {e : Entry} (h : e.Sound) : e.arm.Sound := by
  refine ⟨fun _ => rfl, fun _ => ⟨nofun, nofun⟩, fun t' ht' => ?_⟩
  obtain ⟨t, ht, rfl⟩ := Option.map_eq_some_iff.1 ht'
  exact (h.tracker_sound ht).settled.toRanged.arm (.inl rfl)

/-- A TRACKING or OVERDUE entry goes to ARMED with its misses at 0 (R30, R31). -/
theorem Entry.Sound.disarm {e : Entry} (h : e.Sound) : e.disarm.Sound := by
  unfold Entry.disarm
  split
  · refine ⟨h.expSeq_absent, fun _ => ⟨nofun, nofun⟩, fun t' ht' => ?_⟩
    obtain ⟨t, ht, rfl⟩ := Option.map_eq_some_iff.1 ht'
    have hsettled := (h.tracker_sound ht).settled
    exact (sound_iff_settled _ _).2 ⟨hsettled.setCounts hsettled.elapsed, Nat.zero_le _, rfl⟩
  · exact h

/-- An arrival leaves a sound entry, TRACKING (R28). -/
theorem Entry.Sound.arrive {e : Entry} (h : e.Sound) : e.arrive.Sound := by
  refine ⟨h.expSeq_absent, fun _ => ⟨nofun, nofun⟩, fun t' ht' => ?_⟩
  obtain ⟨t, ht, rfl⟩ := Option.map_eq_some_iff.1 ht'
  have hranged := (h.tracker_sound ht).settled.toRanged
  split
  · exact hranged.arriveTracking
  · exact hranged.arriveOther

/-- A lapse leaves a sound entry, LAPSED at the miss limit and OVERDUE below it (R101, R106). -/
theorem Entry.Sound.lapsed {e : Entry} (h : e.Sound) {t : Tracker} (ht : t.MayMiss) (lost : Bool) :
    (e.lapsed t lost).Sound := by
  have hmisses := ht.misses
  rw [entry_lapsed]
  refine ⟨h.expSeq_absent, nofun, fun t' ht' => ?_⟩
  obtain rfl := Option.some.inj ht'
  refine (sound_iff_settled _ _).2 ⟨ht.toSettled.setCounts (Nat.zero_le _), hmisses, ?_⟩
  split
  next hlimit => exact ⟨rfl, hlimit⟩
  next hlimit =>
    exact ⟨repeatDeadline_pos _ ht.toRanged.fixedDeadline.1, Nat.le_add_left 1 _,
      Nat.lt_of_le_of_ne hmisses hlimit⟩

/-- A tuning in range leaves a sound entry (R86, R87). -/
theorem Entry.Sound.tune {e : Entry} (h : e.Sound) {t : Tracker} (ht : e.tracker = some t) {u : Tune}
    (hu : u.InRange) : ({ e with tracker := some (e.tune t u) } : Entry).Sound := by
  have hsound := h.tracker_sound ht
  refine h.setTracker ?_
  unfold Entry.tune
  split
  next hst => exact hsound.tuneNow hu hst
  next => exact hsound.tuneLater hu

/-- An entry that warm reset keeps is sound (R39). -/
theorem Entry.Sound.warmKept {e : Entry} (h : e.Sound) : e.warmKept.Sound := by
  unfold Entry.warmKept
  split
  · exact h.arm.counters _
  · exact h.counters _

/-! ### Records -/

theorem range_of_rangeOf {lo hi n : Nat} {b : Byte} (h : rangeOf lo hi b = some n) :
    lo ≤ n ∧ n ≤ hi := by
  obtain ⟨hrange, rfl⟩ := (rangeOf_eq lo hi b n).1 h
  exact hrange

/-- The tracker that an accepted entry record gives is ranged (R22, R23). -/
theorem ranged_of_trackerOf {r : EntryRecord} {m : TrackMode} {t : Tracker}
    (h : trackerOf r m = some t) : t.Ranged := by
  simp only [trackerOf, Option.bind_eq_bind, Option.bind_eq_some_iff, Option.pure_def,
    Option.some.injEq] at h
  obtain ⟨exp, hexp, seed, hseed, weight, hweight, _, _, fixed, hfixed, limit, hlimit, _, _, rfl⟩ := h
  have hexp := (range_of_rangeOf hexp).2
  have hseed := range_of_rangeOf hseed
  exact ⟨⟨hexp, hseed, range_of_rangeOf hweight, range_of_rangeOf hfixed, range_of_rangeOf hlimit⟩,
    hexp, Nat.zero_le _, hseed.2, hseed.2, fun _ => ⟨rfl, rfl⟩, nofun⟩

/-- The cadence part that a record gives is armed (R22). -/
theorem arm_of_cadencePartOf {r : EntryRecord} {t : Tracker} (h : cadencePartOf r = some (some t)) :
    ∃ t0 : Tracker, t0.Ranged ∧ t = t0.arm := by
  unfold cadencePartOf at h
  split at h
  · cases h
  · cases h
  · obtain ⟨t0, ht0, harm⟩ := Option.map_eq_some_iff.1 h
    exact ⟨t0, ranged_of_trackerOf ht0, (Option.some.inj harm).symm⟩

/-- An accepted entry record writes a sound entry (R22, R23). -/
theorem sound_of_entryOf {r : EntryRecord} {e : Entry} (h : entryOf r = some e) : e.Sound := by
  simp only [entryOf, Option.bind_eq_bind, Option.bind_eq_some_iff, Option.pure_def,
    Option.some.injEq] at h
  obtain ⟨_, _, _, _, _, _, _, _, _, _, _, _, _, hcadence, rfl⟩ := h
  refine ⟨fun _ => rfl, fun _ => ?_, fun t ht => ?_⟩
  · dsimp only
    split <;> exact ⟨nofun, nofun⟩
  · dsimp only at ht
    subst ht
    obtain ⟨t0, hranged, rfl⟩ := arm_of_cadencePartOf hcadence
    dsimp only
    split
    · exact hranged.arm (.inl rfl)
    · exact hranged.arm (.inr rfl)

/-- A field of an accepted tune record that is given has passed its test (R85). -/
theorem eq_some_of_givenField {α : Type} {given : Bool} {value : Option α} {o : Option α} {x : α}
    (h : givenField given value = some o) (hx : o = some x) : value = some x := by
  subst hx
  cases given with
  | false => cases h
  | true => simpa [givenField] using h

/-- An accepted tune record's fields are in their ranges (R85). -/
theorem inRange_of_tuneOf {r : TuneRecord} {u : Tune} (h : tuneOf r = some u) : u.InRange := by
  simp only [tuneOf, Option.bind_eq_bind, Option.bind_eq_some_iff, Option.pure_def,
    Option.some.injEq] at h
  obtain ⟨_, hweight, _, _, _, hlimit, _, _, _, _, _, hfixed, rfl⟩ := h
  exact ⟨fun _ hx => range_of_rangeOf (eq_some_of_givenField hweight hx),
    fun _ hx => range_of_rangeOf (eq_some_of_givenField hlimit hx),
    fun _ hx => range_of_rangeOf (eq_some_of_givenField hfixed hx)⟩

/-- An entry that passes the checks of an entry write is the record's (R23). -/
theorem entryOf_of_checkWrite {s : State} {i : Byte} {r : EntryRecord} {e : Entry}
    (h : s.checkWrite i r = .ok e) : entryOf r = some e := by
  unfold State.checkWrite at h
  split at h
  · cases h
  · split_ifs at h
    cases h
    assumption

end Sys2Proof.Machine

/-! SUPPORT. The operations that leave the stream table as it is: reception, lines, transmitters, alerts,
the mode's other effects and the management unit's slots. -/

namespace Sys2Proof.Machine

/-! ### Alerts and the mode -/

@[simp] theorem enlist_table (s : State) (i : Byte) : (s.enlist i).table = s.table := by
  rw [enlist_frame]

@[simp] theorem setFrozen_table (s : State) : s.setFrozen.table = s.table := by
  rw [setFrozen_frame]

@[simp] theorem readFreeze_table (s : State) : s.readFreeze.table = s.table := by
  unfold State.readFreeze
  split <;> simp

/-! ### Reception and the classifier -/

@[simp] theorem noBuffer_table (s : State) (p : Port) : (s.noBuffer p).table = s.table := by
  simp [State.noBuffer]

@[simp] theorem claim_table (s : State) (p : Port) : (s.claim p).table = s.table := by
  unfold State.claim
  split <;> simp

@[simp] theorem takeSof_table (s : State) (p : Port) : (s.takeSof p).table = s.table := by
  unfold State.takeSof
  split <;> simp

@[simp] theorem takeByte_table (s : State) (p : Port) (b : Byte) :
    (s.takeByte p b).table = s.table := by
  unfold State.takeByte
  split
  · split <;> simp
  · rfl

@[simp] theorem cutReception_table (s : State) (p : Port) (r : Receiver) :
    (s.cutReception p r).table = s.table := by
  unfold State.cutReception
  split <;> simp

@[simp] theorem takeAbortSymbol_table (s : State) (p : Port) :
    (s.takeAbortSymbol p).table = s.table := by
  unfold State.takeAbortSymbol
  split <;> simp

@[simp] theorem divertFrame_table (s : State) (p : Port) (i : Option Byte) (b : BufId) :
    (s.divertFrame p i b).table = s.table := by
  unfold State.divertFrame
  split <;> simp

@[simp] theorem miss_table (s : State) (p : Port) (b : BufId) : (s.miss p b).table = s.table := by
  unfold State.miss
  dsimp only
  split <;> simp

/-! ### Line events -/

@[simp] theorem discardHeld_table (s : State) : s.discardHeld.table = s.table := by
  unfold State.discardHeld
  dsimp only
  split <;> rfl

@[simp] theorem linkEvent_table (s : State) : s.linkEvent.table = s.table := by
  unfold State.linkEvent
  split <;> simp

@[simp] theorem linkPart_table (s : State) (p : Port) : (s.linkPart p).table = s.table := by
  cases p <;> simp [State.linkPart]

@[simp] theorem portEvent_table (s : State) (p : Port) (r : Receiver) :
    (s.portEvent p r).table = s.table := by
  simp [State.portEvent]

@[simp] theorem takeBreak_table (s : State) (p : Port) : (s.takeBreak p).table = s.table := by
  unfold State.takeBreak State.takeLineReset
  split_ifs <;> simp

@[simp] theorem takeDown_table (s : State) (p : Port) : (s.takeDown p).table = s.table := by
  unfold State.takeDown
  split <;> simp

@[simp] theorem takeHoldExpiry_table (s : State) (p : Port) :
    (s.takeHoldExpiry p).table = s.table := by
  unfold State.takeHoldExpiry
  split <;> simp

/-! ### The transmitters -/

@[simp] theorem send_table (s : State) (p : Port) (o : Outgoing) : (s.send p o).table = s.table := by
  simp [State.send]

@[simp] theorem startFrom_table (s : State) (p : Port) (src : Source) :
    (s.startFrom p src).table = s.table := by
  cases src with
  | control =>
    simp only [State.startFrom, State.startControl]
    split <;> simp
  | response =>
    simp only [State.startFrom, State.startResponse]
    split <;> simp
  | alert =>
    simp only [State.startFrom, State.startAlert]
    split <;> simp
  | cyclic =>
    simp only [State.startFrom, State.startCyclic]
    split <;> simp
  | acyclic =>
    simp only [State.startFrom, State.startAcyclic]
    split <;> simp

@[simp] theorem takeStart_table (s : State) (p : Port) : (s.takeStart p).table = s.table := by
  unfold State.takeStart
  split
  · split <;> simp
  · rfl

/-! ### The management unit -/

@[simp] theorem runBulkLoad_table (s : State) (req : Request) (start : Word16) (n : Byte) :
    (s.runBulkLoad req start n).table = s.table := by
  unfold State.runBulkLoad State.startLoad
  split <;> simp

@[simp] theorem endLoad_table (s : State) (st : Status) : (s.endLoad st).table = s.table := rfl

@[simp] theorem advanceLoad_table (s : State) : s.advanceLoad.table = s.table := rfl

@[simp] theorem abortExecuting_table (s : State) : s.abortExecuting.table = s.table := by
  unfold State.abortExecuting
  split <;> simp

@[simp] theorem abortWaiting_table (s : State) : s.abortWaiting.table = s.table := by
  unfold State.abortWaiting
  split <;> simp

@[simp] theorem takeAbort_table (s : State) (req : Request) : (s.takeAbort req).table = s.table := by
  simp [State.takeAbort]

@[simp] theorem abortSlots_table (s : State) : s.abortSlots.table = s.table := by
  obtain ⟨m, hanswers, _⟩ := abortSlots_answers s
  rw [hanswers]

@[simp] theorem refuseBad_table (s : State) (tag : Byte) (payload : List Byte) :
    (s.refuseBad tag payload).table = s.table := by
  simp [State.refuseBad]

/-- The slot commands that only read, and those on the ports, the alert enables, the locks and the
management stream id. -/
def leavesTable : Command → Bool
  | .setMode _ | .setGate _ _ | .writeEntry _ _ | .freeEntry _ | .armEntry _ | .suspendEntry _
  | .tuneEntry _ _ | .stepScale _ _ | .readCounters _ _ _ => false
  | _ => true

theorem slotSetPort_table (a : PortArgs) (s : State) : (slotSetPort a s).state.table = s.table := by
  unfold slotSetPort State.writePort
  split
  next p _ _ _ =>
    split
    · rfl
    · cases p <;> rfl
  next => rfl

theorem slotSetAlerts_table (b : Byte) (s : State) : (slotSetAlerts b s).state.table = s.table := by
  unfold slotSetAlerts
  split_ifs
  · rfl
  · rfl
  · exact alerting_table s _

theorem slotSetIdent_table (id : Word16) (s : State) : (slotSetIdent id s).state.table = s.table := by
  unfold slotSetIdent
  split
  · rfl
  · split <;> rfl

theorem slotSetLock_table (l : Byte) (s : State) : (slotSetLock l s).state.table = s.table := by
  unfold slotSetLock
  split
  · rfl
  · split <;> rfl

theorem slotSendLineReset_table (p : Byte) (s : State) :
    (slotSendLineReset p s).state.table = s.table := by
  unfold slotSendLineReset
  split
  · exact endTx_table s .S .brk
  · rfl

theorem slotFindEntry_table (p : Byte) (id : Word16) (s : State) :
    (slotFindEntry p id s).state.table = s.table := by
  unfold slotFindEntry
  split
  · split
    · rfl
    · split <;> rfl
  · rfl

theorem slotReadLapses_table (s : State) : (slotReadLapses s).state.table = s.table := by
  unfold slotReadLapses
  split <;> rfl

theorem slotReadDiverted_table (s : State) : (slotReadDiverted s).state.table = s.table := by
  unfold slotReadDiverted
  split <;> rfl

theorem runSlot_table {c : Command} (h : leavesTable c = true) (s : State) :
    (runSlot c s).state.table = s.table := by
  cases c with
  | identify | readStatus | readAlerts | ackEvent | readEntry | bulkLoad | loadData | abort | halt
  | resetWarm => rfl
  | setPort a => exact slotSetPort_table a s
  | setAlerts e => exact slotSetAlerts_table e s
  | setIdent i => exact slotSetIdent_table i s
  | setLock l => exact slotSetLock_table l s
  | sendLineReset p => exact slotSendLineReset_table p s
  | findEntry p i => exact slotFindEntry_table p i s
  | readLapses => exact slotReadLapses_table s
  | readDiverted => exact slotReadDiverted_table s
  | setMode | setGate | writeEntry | freeEntry | armEntry | suspendEntry | tuneEntry | stepScale
  | readCounters => cases h

end Sys2Proof.Machine

/-! SUPPORT. The table law at every step: each operation that writes an entry leaves the table sound, and
O10 from them. -/

namespace Sys2Proof.Machine

/-! ### Writes of the table -/

section
variable {s : State}

/-- The table law looks at the table alone. -/
theorem tableLaw_of_table {t : State} (hs : s.TableLaw) (h : t.table = s.table) : t.TableLaw := by
  intro i e he
  refine hs i e ?_
  rw [← he, State.entry, State.entry, h]

theorem tableLaw_setEntry (hs : s.TableLaw) (i : Byte) {o : Option Entry}
    (ho : ∀ e, o = some e → e.Sound) : (s.setEntry i o).TableLaw := by
  intro j e he
  rw [entry_setEntry] at he
  split at he
  · exact ho e he
  · exact hs j e he

/-- A written sound entry. -/
theorem tableLaw_write (hs : s.TableLaw) (i : Byte) {e : Entry} (he : e.Sound) :
    (s.setEntry i (some e)).TableLaw :=
  tableLaw_setEntry hs i fun _ heq => Option.some.inj heq ▸ he

theorem tableLaw_modEntry (hs : s.TableLaw) (i : Byte) {f : Entry → Entry}
    (hf : ∀ e, e.Sound → (f e).Sound) : (s.modEntry i f).TableLaw := by
  refine tableLaw_setEntry hs i fun e he => ?_
  obtain ⟨e0, he0, rfl⟩ := Option.map_eq_some_iff.1 he
  exact hf e0 (hs i e0 he0)

theorem tableLaw_disarm (hs : s.TableLaw) (pick : Entry → Bool) : (s.disarm pick).TableLaw := by
  intro i e he
  rw [entry_disarm] at he
  obtain ⟨e0, he0, rfl⟩ := Option.map_eq_some_iff.1 he
  have hsound := hs i e0 he0
  split
  · exact hsound.disarm
  · exact hsound

/-- A change made only while the part runs. -/
theorem tableLaw_live (hs : s.TableLaw) {f : State → State} (hf : (f s).TableLaw) :
    (s.live f).TableLaw := by
  unfold State.live
  split
  · exact hf
  · exact hs

/-! ### The mode and resets -/

theorem tableLaw_changeMode (hs : s.TableLaw) (m : RunMode) : (s.changeMode m).TableLaw := by
  intro i e he
  rw [entry_changeMode, State.leaveRun] at he
  split at he
  · exact tableLaw_disarm hs _ i e he
  · exact hs i e he

theorem tableLaw_freeze (hs : s.TableLaw) : s.freeze.TableLaw :=
  tableLaw_of_table (tableLaw_changeMode hs _) (setFrozen_table _)

theorem tableLaw_warmReset (hs : s.TableLaw) : s.warmReset.TableLaw := by
  intro i e he
  rw [entry_warmReset] at he
  unfold warmEntry at he
  split at he
  next => cases he
  next e0 he0 =>
    split at he
    · exact Option.some.inj he ▸ (hs i e0 he0).warmKept
    · cases he

theorem tableLaw_start (hs : s.TableLaw) : s.start.TableLaw := by
  unfold State.start
  split
  · exact tableLaw_of_table hs (readFreeze_table s)
  · exact hs

/-- Cold reset leaves every entry FREE (R38). -/
theorem tableLaw_cold (r p f : Bool) (q : List Instr) : (State.cold r p f q).TableLaw := by
  intro i e he
  simp [State.entry, State.cold] at he

/-! ### The cadence engine -/

/-- A lapse writes its entry and no other (R101). -/
theorem takeLapse_table (s : State) (i : Byte) (e : Entry) (t : Tracker) :
    (s.takeLapse i e t).table =
      (s.setEntry i (some
        (e.lapsed t (t.gapPolicy == .mark && !(s.port e.keyPort.opp).takesMarker)))).table := by
  unfold State.takeLapse
  dsimp only
  split_ifs <;> simp [State.setEntry]

theorem tableLaw_takeLapse (hs : s.TableLaw) (i : Byte) {e : Entry} {t : Tracker} (he : e.Sound)
    (ht : t.MayMiss) : (s.takeLapse i e t).TableLaw :=
  tableLaw_of_table (tableLaw_write hs i (he.lapsed ht _)) (takeLapse_table s i e t)

theorem tableLaw_takeTick (hs : s.TableLaw) (i : Byte) {e : Entry} {t : Tracker} (he : e.Sound)
    (ht : e.tracker = some t) (hst : e.state.tracked = true) : (s.takeTick i e t).TableLaw := by
  obtain ⟨hmiss, hstays⟩ := (he.tracker_sound ht).tick hst
  unfold State.takeTick
  dsimp only
  split
  next => exact tableLaw_takeLapse hs i he hmiss
  next hno => exact tableLaw_write hs i (he.setTracker (hstays (by simpa using hno)))

/-- What a counting entry's timer does need only be told for sound entries that count. -/
theorem tableLaw_atCounting (hs : s.TableLaw) (i : Byte) {f : Entry → Tracker → State}
    (hf : ∀ e t, e.Sound → e.tracker = some t → e.state.tracked = true → (f e t).TableLaw) :
    (s.atCounting i f).TableLaw := by
  unfold State.atCounting
  split
  next => exact hs
  next e he =>
    split
    next => exact hs
    next t ht =>
      split
      next hcount =>
        have htracked : e.state.tracked = true := by
          simp only [State.counting, Bool.and_eq_true] at hcount
          obtain ⟨⟨htracked, _⟩, _⟩ := hcount
          exact htracked
        exact hf e t (hs i e he) ht htracked
      next => exact hs

/-! ### The classifier -/

theorem tableLaw_act (hs : s.TableLaw) (p : Port) (i : Byte) (e : Entry) (b : BufId) :
    (s.act p i e b).TableLaw := by
  have hdropped := tableLaw_modEntry hs i fun e (he : e.Sound) => he.count .dropped
  unfold State.act
  split
  · exact tableLaw_of_table (tableLaw_modEntry hs i fun e he => he.countPlaced _)
      (sendByClass_table _ p e.cls b)
  · exact tableLaw_of_table hdropped (dropFrame_table _ b)
  · split
    · exact tableLaw_of_table hs (divertFrame_table s p _ b)
    · exact tableLaw_of_table hdropped (divertFrame_table _ p _ b)

theorem tableLaw_arrival (hs : s.TableLaw) (i : Byte) {e : Entry} (he : e.Sound) (seq : Byte) :
    (s.arrival i e seq).TableLaw := by
  have hslip : (if e.verdict seq = .slip then e.count .slips else e).Sound := by
    split
    · exact he.count .slips
    · exact he
  exact tableLaw_of_table (tableLaw_write hs i (hslip.expectNext seq).arrive) (unlist_table _ i)

theorem tableLaw_hit (hs : s.TableLaw) (p : Port) (i : Byte) {e : Entry} (he : e.Sound) (f : Frame)
    (b : BufId) : (s.hit p i e f b).TableLaw := by
  unfold State.hit
  split_ifs
  · exact tableLaw_of_table (tableLaw_write hs i (he.count .dropped)) (dropFrame_table _ b)
  · exact tableLaw_act hs p i e b
  · exact tableLaw_of_table (tableLaw_write hs i (he.count .duplicates)) (dropFrame_table _ b)
  · exact tableLaw_act (tableLaw_arrival hs i he f.seq) p i e b

theorem tableLaw_classify (hs : s.TableLaw) (p : Port) (f : Frame) (b : BufId) :
    (s.classify p f b).TableLaw := by
  have hmiss := tableLaw_of_table hs (miss_table s p b)
  unfold State.classify
  split
  · exact tableLaw_of_table hs (sendAcyclic_table s p b)
  · exact tableLaw_of_table hs (by simp)
  · split
    next => exact hmiss
    next i _ =>
      split
      next => exact hmiss
      next e he => exact tableLaw_hit hs p i (hs i e he) f b

/-! ### The slot commands -/

theorem tableLaw_slotWriteEntry (hs : s.TableLaw) (i : Byte) (r : EntryRecord) :
    (slotWriteEntry i r s).state.TableLaw := by
  unfold slotWriteEntry
  split
  next => exact hs
  next e he => exact tableLaw_write hs i (sound_of_entryOf (entryOf_of_checkWrite he))

theorem tableLaw_slotFreeEntry (hs : s.TableLaw) (i : Byte) :
    (slotFreeEntry i s).state.TableLaw := by
  unfold slotFreeEntry
  split
  · exact hs
  · split_ifs
    · exact hs
    · exact hs
    · exact tableLaw_setEntry hs i fun _ heq => nomatch heq

theorem tableLaw_slotArmEntry (hs : s.TableLaw) (i : Byte) : (slotArmEntry i s).state.TableLaw := by
  unfold slotArmEntry
  split
  next => exact hs
  next e he =>
    split_ifs
    · exact hs
    · exact hs
    · exact tableLaw_write hs i (hs i e he).arm

theorem tableLaw_slotSuspendEntry (hs : s.TableLaw) (i : Byte) :
    (slotSuspendEntry i s).state.TableLaw := by
  unfold slotSuspendEntry
  split
  next => exact hs
  next e he =>
    split_ifs
    · exact hs
    · exact tableLaw_of_table (tableLaw_write hs i (hs i e he).suspend) (unlist_table _ i)
    · exact hs

theorem tableLaw_slotTuneEntry (hs : s.TableLaw) (i : Byte) (r : TuneRecord) :
    (slotTuneEntry i r s).state.TableLaw := by
  unfold slotTuneEntry
  split
  next => exact hs
  next u hu =>
    split
    next => exact hs
    next e he =>
      split
      · exact hs
      · split
        next => exact hs
        next t ht => exact tableLaw_write hs i ((hs i e he).tune ht (inRange_of_tuneOf hu))

theorem tableLaw_slotStepScale (hs : s.TableLaw) (i d : Byte) :
    (slotStepScale i d s).state.TableLaw := by
  unfold slotStepScale
  split
  next => exact hs
  next up _ =>
    split
    next => exact hs
    next e he =>
      split
      · exact hs
      · split
        next => exact hs
        next t ht =>
          split
          next => exact hs
          next hfixed =>
            have hsound := hs i e he
            exact tableLaw_write hs i
              (hsound.setTracker ((hsound.tracker_sound ht).request hfixed up))

theorem tableLaw_setGate (hs : s.TableLaw) (g : Fin 8) (o : Gate) : (s.setGate g o).TableLaw := by
  have hclosed : (if o = .closed then s.disarm fun e => e.group == g else s).TableLaw := by
    split
    · exact tableLaw_disarm hs _
    · exact hs
  exact hclosed

theorem tableLaw_slotSetGate (hs : s.TableLaw) (g o : Byte) :
    (slotSetGate g o s).state.TableLaw := by
  unfold slotSetGate
  split
  · split_ifs
    · exact hs
    · exact hs
    · exact tableLaw_setGate hs _ _
  · exact hs

theorem tableLaw_slotSetMode (hs : s.TableLaw) (m : Byte) : (slotSetMode m s).state.TableLaw := by
  unfold slotSetMode
  split
  · exact hs
  · split
    · exact hs
    · exact tableLaw_changeMode hs _

theorem tableLaw_readEntryCounters (hs : s.TableLaw) (i : Byte) (clear : Bool) :
    (readEntryCounters i clear s).state.TableLaw := by
  cases clear with
  | false => exact hs
  | true => exact tableLaw_modEntry hs i fun _ he => he.counters .zero

theorem tableLaw_readPortCounters (hs : s.TableLaw) (p : Port) (clear : Bool) :
    (readPortCounters p clear s).state.TableLaw := by
  cases clear with
  | false => exact hs
  | true => exact tableLaw_of_table hs (modPort_table s p _)

theorem tableLaw_slotReadCounters (hs : s.TableLaw) (k target clear : Byte) :
    (slotReadCounters k target clear s).state.TableLaw := by
  unfold slotReadCounters
  split
  · exact tableLaw_readEntryCounters hs target _
  · split
    · exact hs
    · exact tableLaw_readPortCounters hs _ _
  · exact hs

theorem tableLaw_runSlot (hs : s.TableLaw) (c : Command) : (runSlot c s).state.TableLaw := by
  cases hc : leavesTable c with
  | true => exact tableLaw_of_table hs (runSlot_table hc s)
  | false =>
    cases c with
    | setMode m => exact tableLaw_slotSetMode hs m
    | setGate g o => exact tableLaw_slotSetGate hs g o
    | writeEntry i r => exact tableLaw_slotWriteEntry hs i r
    | freeEntry i => exact tableLaw_slotFreeEntry hs i
    | armEntry i => exact tableLaw_slotArmEntry hs i
    | suspendEntry i => exact tableLaw_slotSuspendEntry hs i
    | tuneEntry i r => exact tableLaw_slotTuneEntry hs i r
    | stepScale i d => exact tableLaw_slotStepScale hs i d
    | readCounters k target clear => exact tableLaw_slotReadCounters hs k target clear
    | _ => cases hc

/-! ### The management unit -/

theorem tableLaw_execute (hs : s.TableLaw) (req : Request) : (s.execute req).TableLaw := by
  unfold State.execute
  split
  · exact tableLaw_of_table hs (runBulkLoad_table s req _ _)
  · exact tableLaw_of_table (tableLaw_runSlot hs _) (finish_table _ _)

theorem tableLaw_moveUp (hs : s.TableLaw) : s.moveUp.TableLaw := by
  unfold State.moveUp
  split
  · exact tableLaw_execute (tableLaw_of_table hs (modMgmt_table s _)) _
  · exact hs

theorem tableLaw_complete (hs : s.TableLaw) (r : Response) : (s.complete r).TableLaw :=
  tableLaw_moveUp (tableLaw_of_table hs (finish_table s r))

theorem tableLaw_closeLoad (hs : s.TableLaw) (bulk : Request) (st : Status) :
    (s.closeLoad bulk st).TableLaw :=
  tableLaw_complete (tableLaw_of_table hs (endLoad_table s st)) _

theorem tableLaw_takeLoadData (hs : s.TableLaw) (bulk req : Request) (r : EntryRecord) :
    (s.takeLoadData bulk req r).TableLaw := by
  unfold State.takeLoadData
  split
  · exact tableLaw_of_table hs (unanswered_table s)
  · dsimp only
    split
    next => exact tableLaw_closeLoad (tableLaw_of_table hs (respondNow_table s _)) bulk _
    next e he =>
      have hwritten := tableLaw_write hs (BitVec.ofNat 8 s.mgmt.nextIndex)
        (sound_of_entryOf (entryOf_of_checkWrite he))
      split
      · exact tableLaw_closeLoad (tableLaw_of_table hwritten (by simp)) bulk .done
      · exact tableLaw_of_table hwritten (by simp)

theorem tableLaw_admitLoadData (hs : s.TableLaw) (req : Request) (r : EntryRecord) :
    (s.admitLoadData req r).TableLaw := by
  unfold State.admitLoadData
  split
  · exact tableLaw_takeLoadData hs _ req r
  · exact tableLaw_of_table hs (respondNow_table s _)

theorem tableLaw_takeHalt (hs : s.TableLaw) (req : Request) : (s.takeHalt req).TableLaw :=
  tableLaw_of_table (tableLaw_changeMode hs _) (respondNow_table _ _)

theorem tableLaw_takeResetWarm (hs : s.TableLaw) (req : Request) : (s.takeResetWarm req).TableLaw :=
  tableLaw_warmReset (tableLaw_of_table hs (by simp))

theorem tableLaw_admitSlot (hs : s.TableLaw) (req : Request) : (s.admitSlot req).TableLaw := by
  unfold State.admitSlot
  split
  · exact tableLaw_of_table hs (respondNow_table s _)
  · split
    · exact tableLaw_moveUp (tableLaw_execute hs req)
    · exact tableLaw_of_table hs (modMgmt_table s _)
    · exact tableLaw_of_table hs (respondNow_table s _)

theorem tableLaw_takeRequest (hs : s.TableLaw) (req : Request) : (s.takeRequest req).TableLaw := by
  unfold State.takeRequest
  split
  · exact tableLaw_of_table hs (takeAbort_table s req)
  · exact tableLaw_takeHalt hs req
  · exact tableLaw_takeResetWarm hs req
  · exact tableLaw_admitLoadData hs req _
  · exact tableLaw_admitSlot hs req

theorem tableLaw_takePayload (hs : s.TableLaw) (tag : Byte) (payload : List Byte) :
    (s.takePayload tag payload).TableLaw := by
  unfold State.takePayload
  split
  · exact tableLaw_of_table hs (refuseBad_table s tag payload)
  · exact tableLaw_takeRequest hs _

theorem tableLaw_takeCompletion (hs : s.TableLaw) : s.takeCompletion.TableLaw := by
  unfold State.takeCompletion
  split
  · split
    · exact tableLaw_complete hs _
    · exact hs
  · exact hs

theorem tableLaw_takeGapExpiry (hs : s.TableLaw) : s.takeGapExpiry.TableLaw := by
  unfold State.takeGapExpiry
  split
  · split
    · exact tableLaw_closeLoad hs _ _
    · exact hs
  · exact hs

theorem tableLaw_takeEscalation (hs : s.TableLaw) : s.takeEscalation.TableLaw := by
  unfold State.takeEscalation
  split
  · exact tableLaw_warmReset (tableLaw_of_table hs (by simp))
  · exact hs

/-! ### EOF -/

theorem tableLaw_handOff (hs : s.TableLaw) (p : Port) (f : Frame) (b : BufId) :
    (s.handOff p f b).TableLaw := by
  unfold State.handOff
  split_ifs
  · exact tableLaw_of_table hs (modPort_table _ p _)
  · exact tableLaw_of_table hs (modPort_table _ p _)
  · exact tableLaw_takePayload (tableLaw_of_table hs (release_table s b)) _ _
  · exact tableLaw_classify hs p f b

theorem tableLaw_takeEof (hs : s.TableLaw) (p : Port) : (s.takeEof p).TableLaw := by
  unfold State.takeEof State.endFill
  split
  · split
    · exact tableLaw_of_table hs (by simp)
    · exact tableLaw_handOff (tableLaw_of_table hs (by simp)) p _ _
  · exact tableLaw_of_table hs (modPort_table s p _)
  · exact hs

/-! ### Every command -/

/-- A command that answers `u` leaves the table as `u` has it. -/
theorem tableLaw_next {u t : State} (h : (.next u : Out) = .next t) (hu : u.TableLaw) :
    t.TableLaw :=
  Host.Outcome.next.inj h ▸ hu

theorem exec_keeps_tableLaw {t : State} (row : Instr) (hs : s.TableLaw) (h : exec row s = .next t) :
    t.TableLaw := by
  cases hrow : requestOf row with
  | some request =>
    rw [exec_of_requestOf s hrow] at h
    exact tableLaw_next h (tableLaw_live hs (tableLaw_takeRequest hs _))
  | none =>
    cases row
    case sof | dataByte | abortReceived | idleReceived | holdTimerExpiry | lineReset | portDown | portUp
      | breakEnd | spacingEnd | transmissionStart =>
      exact tableLaw_next h (tableLaw_live hs (tableLaw_of_table hs (by simp)))
    case transmissionComplete =>
      refine tableLaw_next h (tableLaw_live hs (tableLaw_of_table hs ?_))
      split <;> simp
    case eof p =>
      exact tableLaw_next h
        (tableLaw_live hs (tableLaw_takeEof (tableLaw_of_table hs (modPort_table s p _)) p))
    case tickExpiry i =>
      exact tableLaw_next h (tableLaw_live hs (tableLaw_atCounting hs i fun e t he ht hst =>
        tableLaw_takeTick hs i he ht hst))
    case lapse i =>
      exact tableLaw_next h (tableLaw_live hs (tableLaw_atCounting hs i fun e t he ht hst =>
        tableLaw_takeLapse hs i he (((he.tracker_sound ht).mayMiss hst).untilLapse e.state)))
    case badCommand tag payload =>
      exact tableLaw_next h (tableLaw_live hs (tableLaw_takePayload hs tag payload))
    case commandCompletion => exact tableLaw_next h (tableLaw_live hs (tableLaw_takeCompletion hs))
    case gapTimerExpiry => exact tableLaw_next h (tableLaw_live hs (tableLaw_takeGapExpiry hs))
    case escalation => exact tableLaw_next h (tableLaw_live hs (tableLaw_takeEscalation hs))
    case freezeAsserted =>
      have hlow : ({ s with freezeLow := true } : State).TableLaw := tableLaw_of_table hs rfl
      refine tableLaw_next h ?_
      split
      · exact hs
      · exact tableLaw_live hlow (tableLaw_freeze hlow)
    case freezeDeasserted => exact tableLaw_next h (tableLaw_of_table hs rfl)
    case coldReset cause =>
      cases cause <;> exact tableLaw_next h (tableLaw_cold _ _ _ _)
    case resetDeasserted =>
      have hhigh : ({ s with resetLow := false } : State).TableLaw := tableLaw_of_table hs rfl
      refine tableLaw_next h ?_
      split
      · exact tableLaw_start hhigh
      · exact hs
    case powerUpStart =>
      have hgood : ({ s with powered := true } : State).TableLaw := tableLaw_of_table hs rfl
      refine tableLaw_next h ?_
      split
      · exact hs
      · exact tableLaw_start hgood
    all_goals cases hrow

end

theorem step_keeps_tableLaw {s t : State} (hs : s.TableLaw) (h : step s = .next t) : t.TableLaw := by
  unfold step at h
  split at h
  next => exact tableLaw_next h hs
  next c rest _ =>
    have htaken : ({ s with pending := rest } : State).TableLaw := tableLaw_of_table hs rfl
    exact exec_keeps_tableLaw c htaken h

/-- Settles O10: the law by the command at the front of the queue, the ranges as a part of soundness. -/
theorem stepKeepsTrackerRanges : Obligations.StepKeepsTrackerRanges := by
  refine ⟨fun s t => step_keeps_tableLaw, fun s i e t hs he ht => ?_⟩
  have hsound := (hs i e he).tracker_sound ht
  exact ⟨hsound.settled.exp, hsound.settled.elapsed, hsound.settled.deadline, hsound.misses_le⟩

end Sys2Proof.Machine

/-! SUPPORT. STEP-SCALE (R27, R92): which bytes name a direction, the flag a request sets, the command's
effect by the entry it finds, and O48 from them. -/

namespace Sys2Proof.Machine

/-! ### Directions and their flags -/

theorem directionOf_of_above {d : Byte} (h : 1 < d.toNat) : directionOf d = none := by
  revert d; decide

theorem directionOf_of_le {d : Byte} (h : d.toNat ≤ 1) : directionOf d = some (d == 0) := by
  revert d; decide

theorem direction_cases {d : Byte} (h : d.toNat ≤ 1) : d = 0 ∨ d = 1 := by
  revert d; decide

/-- A request sets the flag of its own direction and leaves the other as it is (R92). -/
theorem request_of_direction (t : Tracker) {d : Byte} (h : d.toNat ≤ 1) :
    t.request (d == 0) =
      { t with scaleUp := t.scaleUp || d == 0, scaleDown := t.scaleDown || d == 1 } := by
  rcases direction_cases h with rfl | rfl
  · simp [Tracker.request]
  · simp [Tracker.request]

/-! ### The command by the entry it finds -/

section
variable {s : State} {i d : Byte} {e : Entry} {t : Tracker} {up : Bool}

theorem slotStepScale_of_badDirection (hd : directionOf d = none) :
    slotStepScale i d s = s.answer .badArgument := by
  simp only [slotStepScale, hd]

theorem slotStepScale_of_free (hd : directionOf d = some up) (h : s.entry i = none) :
    slotStepScale i d s = s.answer .entryState := by
  simp only [slotStepScale, hd, h]

theorem slotStepScale_of_locked (hd : directionOf d = some up) (h : s.entry i = some e)
    (hl : s.lockedEntry e = true) : slotStepScale i d s = s.answer .locked := by
  simp only [slotStepScale, hd, h, hl, if_true]

theorem slotStepScale_of_untracked (hd : directionOf d = some up) (h : s.entry i = some e)
    (hl : s.lockedEntry e = false) (ht : e.tracker = none) :
    slotStepScale i d s = s.answer .entryState := by
  simp [slotStepScale, hd, h, hl, ht]

theorem slotStepScale_of_learn (hd : directionOf d = some up) (h : s.entry i = some e)
    (hl : s.lockedEntry e = false) (ht : e.tracker = some t) (hm : t.mode = .learn) :
    slotStepScale i d s = s.answer .entryState := by
  simp [slotStepScale, hd, h, hl, ht, hm]

theorem slotStepScale_of_fixed (hd : directionOf d = some up) (h : s.entry i = some e)
    (hl : s.lockedEntry e = false) (ht : e.tracker = some t) (hm : t.mode = .fixed) :
    slotStepScale i d s =
      (s.setEntry i (some { e with tracker := some (t.request up) })).done := by
  simp [slotStepScale, hd, h, hl, ht, hm]

end

/-- Settles O48: the direction, the entry, its lock, its tracker and the tracker's mode, in the order they
are tested. -/
theorem stepScaleSetsOneFlag : Obligations.StepScaleSetsOneFlag := by
  intro s tag i d hready
  have row {r : SlotResult} :=
    exec_of_ready (.stepScale tag i d) (.stepScale i d) r hready rfl rfl nofun
  refine
    ⟨fun habove => row (slotStepScale_of_badDirection (directionOf_of_above habove)) ⟨rfl, rfl, rfl⟩,
      fun hle hn => row (slotStepScale_of_free (directionOf_of_le hle) hn) ⟨rfl, rfl, rfl⟩,
      fun e hle he => ?_⟩
  have hd := directionOf_of_le hle
  refine
    ⟨fun hl => row (slotStepScale_of_locked hd he hl) ⟨rfl, rfl, rfl⟩,
      fun hl hoff => row (slotStepScale_of_untracked hd he hl hoff) ⟨rfl, rfl, rfl⟩,
      fun t hl ht =>
        ⟨fun hm => row (slotStepScale_of_learn hd he hl ht hm) ⟨rfl, rfl, rfl⟩, fun hm => ?_⟩⟩
  rw [← request_of_direction t hle]
  exact row (slotStepScale_of_fixed hd he hl ht hm) ⟨rfl, rfl, rfl⟩

end Sys2Proof.Machine

/-! SUPPORT. TUNE-ENTRY (R85 to R88): the fields a tune record gives, a tuning taken at once or as a
preload, the command's effect by the entry it finds, and O47 from them. -/

namespace Sys2Proof.Machine

/-! ### The fields a tune record gives -/

/-- A record spells a tuning exactly when each of its fields is ungiven or passes its test (R85). -/
theorem tuneOf_eq_some_iff (r : TuneRecord) (u : Tune) :
    tuneOf r = some u ↔
      givenField (r.mask.getLsbD 0) (rangeOf 1 255 r.weight) = some u.weight ∧
        givenField (r.mask.getLsbD 1) (basisOf r.basis) = some u.basis ∧
        givenField (r.mask.getLsbD 2) (rangeOf 1 15 r.missLimit) = some u.missLimit ∧
        givenField (r.mask.getLsbD 3) (gapPolicyOf r.gapPolicy) = some u.gapPolicy ∧
        givenField (r.mask.getLsbD 4) (trackModeOf r.mode) = some u.mode ∧
        givenField (r.mask.getLsbD 5) (rangeOf 1 255 r.fixedDeadline) = some u.fixedDeadline := by
  simp only [tuneOf, Option.bind_eq_bind, Option.bind_eq_some_iff, Option.pure_def,
    Option.some.injEq]
  constructor
  · rintro ⟨weight, hweight, basis, hbasis, limit, hlimit, gap, hgap, mode, hmode, fixed, hfixed, rfl⟩
    exact ⟨hweight, hbasis, hlimit, hgap, hmode, hfixed⟩
  · rintro ⟨hweight, hbasis, hlimit, hgap, hmode, hfixed⟩
    exact ⟨_, hweight, _, hbasis, _, hlimit, _, hgap, _, hmode, _, hfixed, rfl⟩

/-- A byte field that may not be 0 (R206). -/
theorem rangeOf_nonzero_isSome (x : Byte) : (rangeOf 1 255 x).isSome = true ↔ x ≠ 0 := by
  revert x; decide

/-- A record is accepted exactly when every given field is in its range (R85). -/
theorem tuneOf_isSome (r : TuneRecord) :
    (tuneOf r).isSome = true ↔
      (r.mask.getLsbD 0 = true → r.weight ≠ 0) ∧
        (r.mask.getLsbD 1 = true → r.basis.toNat ≤ 1) ∧
        (r.mask.getLsbD 2 = true → 1 ≤ r.missLimit.toNat ∧ r.missLimit.toNat ≤ 15) ∧
        (r.mask.getLsbD 3 = true → r.gapPolicy.toNat ≤ 1) ∧
        (r.mask.getLsbD 4 = true → r.mode = 1 ∨ r.mode = 2) ∧
        (r.mask.getLsbD 5 = true → r.fixedDeadline ≠ 0) := by
  rw [← rangeOf_nonzero_isSome, ← basisOf_isSome, ← rangeOf_isSome, ← gapPolicyOf_isSome,
    ← trackModeOf_isSome, ← rangeOf_nonzero_isSome]
  simp only [← givenField_isSome]
  simp only [Option.isSome_iff_exists, tuneOf_eq_some_iff]
  constructor
  · rintro ⟨u, hweight, hbasis, hlimit, hgap, hmode, hfixed⟩
    exact ⟨⟨_, hweight⟩, ⟨_, hbasis⟩, ⟨_, hlimit⟩, ⟨_, hgap⟩, ⟨_, hmode⟩, ⟨_, hfixed⟩⟩
  · rintro ⟨⟨weight, hweight⟩, ⟨basis, hbasis⟩, ⟨limit, hlimit⟩, ⟨gap, hgap⟩, ⟨mode, hmode⟩,
      ⟨fixed, hfixed⟩⟩
    exact ⟨⟨weight, basis, limit, gap, mode, fixed⟩, hweight, hbasis, hlimit, hgap, hmode, hfixed⟩

/-- A given field has the code its byte carries, and an ungiven one is absent (R85). -/
theorem map_code_of_givenField {α β : Type} {given : Bool} {value o : Option α} {x : β} (code : α → β)
    (hcode : ∀ a, value = some a → code a = x) (h : givenField given value = some o) :
    o.map code = if given then some x else none := by
  cases given with
  | false =>
    obtain rfl : none = o := by simpa [givenField] using h
    rfl
  | true =>
    obtain ⟨a, ha, rfl⟩ : ∃ a, value = some a ∧ some a = o := by simpa [givenField] using h
    simp [hcode a ha]

/-- A given number is its byte's, and an ungiven one is absent (R85). -/
theorem eq_of_givenField_rangeOf {given : Bool} {lo hi : Nat} {x : Byte} {o : Option Nat}
    (h : givenField given (rangeOf lo hi x) = some o) :
    o = if given then some x.toNat else none := by
  have hcode : ∀ n, rangeOf lo hi x = some n → id n = x.toNat := fun n hn =>
    ((rangeOf_eq lo hi x n).1 hn).2.symm
  simpa using map_code_of_givenField id hcode h

/-! ### A tuning taken -/

/-- A tuning of an entry that does not count, field by field: the misses are lowered to the limit the
tuning leaves (R86). -/
theorem tuneNow_eq (t : Tracker) (u : Tune) :
    t.tuneNow u =
      ({ t.applyTune u with
        preload := none
        misses := min t.misses (u.missLimit.getD t.missLimit) } : Tracker).settle false := rfl

/-- A tuning of any other entry becomes its preload, and an empty one leaves none (R87, R88). -/
theorem tuneLater_eq (t : Tracker) (u : Tune) :
    t.tuneLater u =
      { t with
        preload := if u = ⟨none, none, none, none, none, none⟩ then none else some u } := by
  simp only [Tracker.tuneLater, Tune.isEmpty_iff]

theorem entry_tune_eq (e : Entry) (t : Tracker) (u : Tune) :
    e.tune t u =
      if e.state = .suspended ∨ e.state = .armed then
        ({ t.applyTune u with
          preload := none
          misses := min t.misses (u.missLimit.getD t.missLimit) } : Tracker).settle false
      else
        { t with
          preload := if u = ⟨none, none, none, none, none, none⟩ then none else some u } := by
  rw [Entry.tune, tuneNow_eq, tuneLater_eq]

/-! ### The command by the entry it finds -/

section
variable {s : State} {i : Byte} {r : TuneRecord} {u : Tune} {e : Entry} {t : Tracker}

theorem slotTuneEntry_of_badRecord (hu : tuneOf r = none) :
    slotTuneEntry i r s = s.answer .badArgument := by
  simp only [slotTuneEntry, hu]

theorem slotTuneEntry_of_free (hu : tuneOf r = some u) (h : s.entry i = none) :
    slotTuneEntry i r s = s.answer .entryState := by
  simp only [slotTuneEntry, hu, h]

theorem slotTuneEntry_of_locked (hu : tuneOf r = some u) (h : s.entry i = some e)
    (hl : s.lockedEntry e = true) : slotTuneEntry i r s = s.answer .locked := by
  simp only [slotTuneEntry, hu, h, hl, if_true]

theorem slotTuneEntry_of_untracked (hu : tuneOf r = some u) (h : s.entry i = some e)
    (hl : s.lockedEntry e = false) (ht : e.tracker = none) :
    slotTuneEntry i r s = s.answer .entryState := by
  simp [slotTuneEntry, hu, h, hl, ht]

theorem slotTuneEntry_of_tracked (hu : tuneOf r = some u) (h : s.entry i = some e)
    (hl : s.lockedEntry e = false) (ht : e.tracker = some t) :
    slotTuneEntry i r s =
      (s.setEntry i (some { e with tracker := some (e.tune t u) })).done := by
  simp [slotTuneEntry, hu, h, hl, ht]

end

/-- Settles O47: the codes, the fields of a record one by one, and the command by the record, the entry,
its lock and its tracker. -/
theorem tuneEntryWritesOrPreloads : Obligations.TuneEntryWritesOrPreloads := by
  refine ⟨?codes, ⟨tuneOf_isSome, fun r u hu => ?fields⟩, fun s tag i r hready => ?command⟩
  case codes => simp [EntryFieldCodes, actionCode, classCode, trackModeCode, basisCode, gapPolicyCode]
  case fields =>
    obtain ⟨hweight, hbasis, hlimit, hgap, hmode, hfixed⟩ := (tuneOf_eq_some_iff r u).1 hu
    exact
      ⟨eq_of_givenField_rangeOf hweight,
        map_code_of_givenField basisCode (fun b => (basisOf_eq _ b).1) hbasis,
        eq_of_givenField_rangeOf hlimit,
        map_code_of_givenField gapPolicyCode (fun g => (gapPolicyOf_eq _ g).1) hgap,
        map_code_of_givenField trackModeCode (fun m => (trackModeOf_eq _ m).1) hmode,
        eq_of_givenField_rangeOf hfixed⟩
  case command =>
    have row {res : SlotResult} :=
      exec_of_ready (.tuneEntry tag i r) (.tuneEntry i r) res hready rfl rfl nofun
    refine
      ⟨fun hbad => row (slotTuneEntry_of_badRecord hbad) ⟨rfl, rfl, rfl⟩,
        fun u hu =>
          ⟨fun hn => row (slotTuneEntry_of_free hu hn) ⟨rfl, rfl, rfl⟩,
            fun e he =>
              ⟨fun hl => row (slotTuneEntry_of_locked hu he hl) ⟨rfl, rfl, rfl⟩,
                fun hl hoff => row (slotTuneEntry_of_untracked hu he hl hoff) ⟨rfl, rfl, rfl⟩,
                fun t hl ht => ?_⟩⟩⟩
    rw [← entry_tune_eq]
    exact row (slotTuneEntry_of_tracked hu he hl ht) ⟨rfl, rfl, rfl⟩

end Sys2Proof.Machine

/-! SUPPORT. Arrivals in TRACKING (R66, R74 to R76, R91, R94 to R97): the rescale of a LEARN tracker, the
scale step of a FIXED one by the request it takes, and O31 from them. -/

namespace Sys2Proof.Machine

/-! ### The steps of an arrival with no preload -/

/-- With no preload an arrival in TRACKING is a capture, the rescale of the mode that stands, and the
counts set to 0 (R74, R76). -/
theorem arriveTracking_of_no_preload (t : Tracker) (h : t.preload = none) :
    t.arriveTracking = t.capture.rescale.endCounts := by
  rw [Tracker.arriveTracking, takePreload_of_none t.capture h]

/-! ### The rescale of a LEARN tracker -/

theorem rescale_of_speedUp (t : Tracker) (hm : t.mode = .learn) (h : 0 < t.exp ∧ t.last < 85) :
    t.rescale = t.speedUp.settle t.speedUpSaturates := by
  simp only [Tracker.rescale, hm]
  exact if_pos h

theorem rescale_of_no_speedUp (t : Tracker) (hm : t.mode = .learn) (h : t.exp = 0 ∨ 85 ≤ t.last) :
    t.rescale = t.settle false := by
  have hnot : ¬(0 < t.exp ∧ t.last < 85) := by omega
  simp only [Tracker.rescale, hm]
  exact if_neg hnot

/-- A capture below 85 does not saturate at the speed-up (R75). -/
theorem speedUpSaturates_of_last_lt (t : Tracker) (h : t.last < 85) :
    t.speedUpSaturates = (decide (255 < 2 * t.prev) || decide (255 < 2 * t.fixedDeadline)) := by
  have hlast : saturates t.last = false := decide_eq_false (by omega)
  rw [Tracker.speedUpSaturates, hlast, Bool.false_or]
  rfl

/-! ### The scale step of a FIXED tracker -/

/-- The scale step leaves the mode, so that a FIXED tracker's deadline is the fixed deadline the step
leaves (R76). -/
theorem rescale_of_fixed (t : Tracker) (hm : t.mode = .fixed) :
    t.rescale =
      { t.scaleStep with
        deadline := t.scaleStep.fixedDeadline
        overflow := t.scaleSaturates } := by
  have hstep : t.scaleStep.mode = .fixed := by
    simp only [Tracker.scaleStep, Tracker.scaleUpStep, Tracker.scaleDownStep]
    split_ifs <;> exact hm
  simp only [Tracker.rescale, hm]
  exact settle_of_fixed _ _ hstep

theorem scaleStep_of_up (t : Tracker) (hu : t.scaleUp = true) : t.scaleStep = t.scaleUpStep := by
  simp only [Tracker.scaleStep, hu, if_true]

theorem scaleStep_of_down (t : Tracker) (hu : t.scaleUp = false) (hd : t.scaleDown = true) :
    t.scaleStep = t.scaleDownStep := by
  simp [Tracker.scaleStep, hu, hd]

/-- An up request doubles the tick and halves every count (R95). -/
theorem scaleUpStep_of_lt (t : Tracker) (h : t.exp < 15) :
    t.scaleUpStep =
      { t with
        exp := t.exp + 1
        elapsed := t.elapsed / 2
        last := t.last / 2
        prev := t.prev / 2
        fixedDeadline := halvedKeep t.fixedDeadline
        scaleUp := false
        scaleLimit := false } :=
  if_neg (Nat.not_le_of_gt h)

/-- At the top of the range an up request is cleared and the limit flagged (R97). -/
theorem scaleUpStep_of_limit (t : Tracker) (h : 15 ≤ t.exp) :
    t.scaleUpStep = { t with scaleUp := false, scaleLimit := true } :=
  if_pos h

/-- A down request halves the tick and doubles every count (R96). -/
theorem scaleDownStep_of_pos (t : Tracker) (h : 0 < t.exp) :
    t.scaleDownStep =
      { t with
        exp := t.exp - 1
        elapsed := doubled t.elapsed
        last := doubled t.last
        prev := doubled t.prev
        fixedDeadline := doubled t.fixedDeadline
        scaleDown := false
        scaleLimit := false } :=
  if_neg (Nat.ne_of_gt h)

/-- At the bottom of the range a down request is cleared and the limit flagged (R97). -/
theorem scaleDownStep_of_limit (t : Tracker) (h : t.exp = 0) :
    t.scaleDownStep = { t with scaleDown := false, scaleLimit := true } :=
  if_pos h

/-- Only a down request doubles, so no other scale step saturates (R69). -/
theorem scaleSaturates_of_not_down (t : Tracker) (h : t.scaleUp = true ∨ t.scaleDown = false) :
    t.scaleSaturates = false := by
  rcases h with hu | hd
  · simp [Tracker.scaleSaturates, hu]
  · simp [Tracker.scaleSaturates, hd]

/-- A down request at the bottom of the range doubles nothing (R69, R97). -/
theorem scaleSaturates_of_bottom (t : Tracker) (h : t.exp = 0) : t.scaleSaturates = false := by
  simp [Tracker.scaleSaturates, Tracker.scaleDownSaturates, h]

theorem scaleSaturates_of_down (t : Tracker) (hu : t.scaleUp = false) (hd : t.scaleDown = true)
    (h : 0 < t.exp) :
    t.scaleSaturates =
      (saturates t.elapsed || saturates t.last || saturates t.prev || saturates t.fixedDeadline) := by
  simp [Tracker.scaleSaturates, Tracker.scaleDownSaturates, hu, hd, Nat.ne_of_gt h]

/-! ### The arrival -/

section
variable {t : Tracker}

theorem arriveTracking_of_speedUp (hm : t.mode = .learn) (hp : t.preload = none)
    (h : 0 < t.exp ∧ t.elapsed < 85) :
    t.arriveTracking =
      (t.capture.speedUp.settle
        (decide (255 < 2 * t.last) || decide (255 < 2 * t.fixedDeadline))).endCounts := by
  rw [arriveTracking_of_no_preload t hp, rescale_of_speedUp t.capture hm h,
    speedUpSaturates_of_last_lt t.capture h.2]
  rfl

theorem arriveTracking_of_no_speedUp (hm : t.mode = .learn) (hp : t.preload = none)
    (h : t.exp = 0 ∨ 85 ≤ t.elapsed) :
    t.arriveTracking = (t.capture.settle false).endCounts := by
  rw [arriveTracking_of_no_preload t hp, rescale_of_no_speedUp t.capture hm h]

/-- After a capture elapsed stands as the last capture too, so a down request saturates by three counts
(R69, R96). -/
theorem capture_scaleSaturates_of_down (hu : t.scaleUp = false) (hd : t.scaleDown = true)
    (h : 0 < t.exp) :
    t.capture.scaleSaturates =
      (saturates t.elapsed || saturates t.last || saturates t.fixedDeadline) := by
  rw [scaleSaturates_of_down t.capture hu hd h]
  show (saturates t.elapsed || saturates t.elapsed || saturates t.last ||
    saturates t.fixedDeadline) = _
  rw [Bool.or_self]

/-- An arrival in FIXED whose scale step leaves `u` and saturates by `sat` (R76). -/
theorem arriveTracking_of_scaleStep {u : Tracker} {sat : Bool} (hm : t.mode = .fixed)
    (hp : t.preload = none) (hstep : t.capture.scaleStep = u)
    (hsat : t.capture.scaleSaturates = sat) :
    t.arriveTracking =
      { u with deadline := u.fixedDeadline, overflow := sat, elapsed := 0, misses := 0 } := by
  rw [arriveTracking_of_no_preload t hp, rescale_of_fixed t.capture hm, hstep, hsat]
  rfl

end

/-- Settles O31: a LEARN arrival by the speed-up's condition, a FIXED one by the request its scale step
takes and the exponent it finds. -/
theorem arrivalInTrackingRescalesByMode : Obligations.ArrivalInTrackingRescalesByMode := by
  refine ⟨fun t hm hp => ⟨arriveTracking_of_speedUp hm hp, arriveTracking_of_no_speedUp hm hp⟩,
    fun t hm hp => ⟨fun hu hd => ?none, fun hu hroom => ?up, fun hu hd hroom => ?down,
      fun hend => ?limit⟩⟩
  case none =>
    rw [arriveTracking_of_scaleStep hm hp (scaleStep_of_none t.capture hu hd)
      (scaleSaturates_of_not_down t.capture (.inr hd))]
    rfl
  case up =>
    have hstep := (scaleStep_of_up t.capture hu).trans (scaleUpStep_of_lt t.capture hroom)
    rw [arriveTracking_of_scaleStep hm hp hstep (scaleSaturates_of_not_down t.capture (.inl hu))]
    rfl
  case down =>
    have hstep := (scaleStep_of_down t.capture hu hd).trans (scaleDownStep_of_pos t.capture hroom)
    rw [arriveTracking_of_scaleStep hm hp hstep (capture_scaleSaturates_of_down hu hd hroom)]
    rfl
  case limit =>
    rcases hend with ⟨hu, htop⟩ | ⟨hu, hd, hbottom⟩
    · have hstep := (scaleStep_of_up t.capture hu).trans (scaleUpStep_of_limit t.capture htop)
      rw [arriveTracking_of_scaleStep hm hp hstep (scaleSaturates_of_not_down t.capture (.inl hu))]
      simp [Tracker.capture, hu]
    · have hstep :=
        (scaleStep_of_down t.capture hu hd).trans (scaleDownStep_of_limit t.capture hbottom)
      rw [arriveTracking_of_scaleStep hm hp hstep (scaleSaturates_of_bottom t.capture hbottom)]
      simp [Tracker.capture, hu]

end Sys2Proof.Machine

/-! SUPPORT. SET-PORT and SET-ALERTS (R136, R182, R184): which arguments spell settings, the effect of each
command by its checks, and O44 from them. -/

namespace Sys2Proof.Machine

/-! ### A request row at an idle management unit -/

/-- As `exec_of_ready`, for a unit that may be HELD while it admits the command, and for an effect that may
change the management unit outside its slots (R151 to R155). -/
theorem exec_of_idle {s : State} {tag : Byte} (row : Instr) (c : Command) (r : SlotResult)
    (hidle : s.Idle) (hheld : s.mgmt.heldEvent = true → whileHeld c = true)
    (hrow : requestOf row = some (tag, c)) (hslot : isSlotCommand c = true)
    (hbulk : ∀ start count, c ≠ .bulkLoad start count) (hrun : runSlot c s = r)
    (hslots : r.state.mgmt.executing = s.mgmt.executing ∧ r.state.mgmt.waiting = s.mgmt.waiting)
    (hkeep : r.state.responses = s.responses ∧ r.state.mgmtId = s.mgmtId) :
    exec row s = .next (r.state.replied tag c.code r.status 0 r.data) := by
  obtain ⟨hrunning, hexec, hwait, hplace⟩ := hidle
  obtain ⟨hexec', hwait'⟩ := hslots
  obtain ⟨hresp, hid⟩ := hkeep
  rw [exec_of_requestOf s hrow, arrive, live_of_running s _ hrunning,
    takeCommand_slot s r.state tag c r.status r.data hslot hbulk hexec hheld hrun
      (hexec'.trans hexec) (hwait'.trans hwait) hresp hplace, State.replied, hid]

/-! ### The settings SET-PORT carries -/

/-- A byte in range carries the miss policy whose code it is (R206). -/
theorem missPolicyOf_eq_some {x : Byte} {mp : MissPolicy} (hx : x.toNat ≤ 2)
    (hforward : mp = .forward ↔ x = 0) (hdrop : mp = .drop ↔ x = 1) :
    missPolicyOf x = some mp := by
  have code : ∀ x : Byte, x.toNat ≤ 2 →
      missPolicyOf x = some (if x = 0 then .forward else if x = 1 then .drop else .divert) := by
    decide
  rw [code x hx]
  cases mp <;> simp_all

/-- The port whose code a byte in range is (R206). -/
theorem portOf_eq_some {x : Byte} {p : Port} (hx : x.toNat ≤ 1) (hN : p = .N ↔ x = 0) :
    portOf x = some p := by
  have code : ∀ x : Byte, x.toNat ≤ 1 → portOf x = some (if x = 0 then .N else .S) := by decide
  rw [code x hx]
  cases p <;> simp_all

/-- The arguments of SET-PORT that are in range, their settings apart from the port (R136, R206). -/
theorem settingsOf_eq_some_iff (a : PortArgs) (st : PortSettings) :
    settingsOf a = some st ↔
      missPolicyOf a.missPolicy = some st.missPolicy ∧
        ((2 ≤ a.upper.toNat ∧ a.upper.toNat ≤ 64) ∧ a.upper.toNat = st.upper) ∧
        (a.lower.toNat ≤ 63 ∧ a.lower.toNat = st.lower) ∧
        ((1 ≤ a.pauseRepeat.toNat ∧ a.pauseRepeat.toNat ≤ 16) ∧
          a.pauseRepeat.toNat = st.pauseRepeat) ∧
        ((1 ≤ a.holdTimeout.toNat ∧ a.holdTimeout.toNat ≤ 255) ∧ a.holdTimeout.toNat = st.holdTimeout) ∧
        st.lower < st.upper ∧
        (st.pauseRepeat = 1 ∨ st.pauseRepeat = 4 ∨ st.pauseRepeat = 8 ∨ st.pauseRepeat = 16) := by
  simp only [settingsOf, Option.bind_eq_bind, Option.bind_eq_some_iff, Option.pure_def,
    Option.ite_none_right_eq_some, Option.some.injEq, rangeOf_eq, Nat.zero_le, true_and]
  constructor
  · rintro ⟨mp, hmp, up, hup, lo, hlo, re, hre, ho, hho, ⟨hlt, hrep⟩, rfl⟩
    exact ⟨hmp, hup, hlo, hre, hho, hlt, hrep⟩
  · rintro ⟨hmp, hup, hlo, hre, hho, hlt, hrep⟩
    exact ⟨_, hmp, _, hup, _, hlo, _, hre, _, hho, ⟨hlt, hrep⟩, rfl⟩

/-- The arguments of SET-PORT are in range (R136, R184). -/
def PortArgsInRange (a : PortArgs) : Prop :=
  a.port.toNat ≤ 1 ∧ a.missPolicy.toNat ≤ 2 ∧ (2 ≤ a.upper.toNat ∧ a.upper.toNat ≤ 64) ∧
    a.lower.toNat ≤ 63 ∧ a.lower.toNat < a.upper.toNat ∧
    (a.pauseRepeat = 1 ∨ a.pauseRepeat = 4 ∨ a.pauseRepeat = 8 ∨ a.pauseRepeat = 16) ∧
    a.holdTimeout ≠ 0

/-- The settings a SET-PORT in range carries, its miss policy read (R184). -/
def carriedSettings (a : PortArgs) (mp : MissPolicy) : PortSettings :=
  ⟨mp, a.upper.toNat, a.lower.toNat, a.pauseRepeat.toNat, a.holdTimeout.toNat⟩

theorem settingsOf_eq_some {a : PortArgs} {mp : MissPolicy} (ha : PortArgsInRange a)
    (hmp : missPolicyOf a.missPolicy = some mp) : settingsOf a = some (carriedSettings a mp) := by
  obtain ⟨-, -, hupper, hlower, hlt, hrepeat, hhold⟩ := ha
  have hrepeat' : a.pauseRepeat.toNat = 1 ∨ a.pauseRepeat.toNat = 4 ∨ a.pauseRepeat.toNat = 8 ∨
      a.pauseRepeat.toNat = 16 := by bv_omega
  have hhold' : 1 ≤ a.holdTimeout.toNat ∧ a.holdTimeout.toNat ≤ 255 := by bv_omega
  rw [settingsOf_eq_some_iff]
  exact ⟨hmp, ⟨hupper, rfl⟩, ⟨hlower, rfl⟩, ⟨by omega, rfl⟩, ⟨hhold', rfl⟩, hlt, hrepeat'⟩

/-- The part's tests of a SET-PORT pass only in range (R184). -/
theorem portArgsInRange_of_some {a : PortArgs} {p : Port} {st : PortSettings}
    (hp : portOf a.port = some p) (hst : settingsOf a = some st) : PortArgsInRange a := by
  obtain ⟨hmp, ⟨hupper, hup⟩, ⟨hlower, hlo⟩, ⟨-, hre⟩, ⟨hhold, -⟩, hlt, hrepeat⟩ :=
    (settingsOf_eq_some_iff a st).1 hst
  rw [← hup, ← hlo] at hlt
  rw [← hre] at hrepeat
  exact ⟨(portOf_isSome _).1 (hp ▸ rfl), (missPolicyOf_isSome _).1 (hmp ▸ rfl), hupper, hlower, hlt,
    by bv_omega, by bv_omega⟩

/-- A SET-PORT in range names a port and settings (R184). -/
theorem exists_of_portArgsInRange {a : PortArgs} (ha : PortArgsInRange a) :
    ∃ p st, portOf a.port = some p ∧ settingsOf a = some st := by
  obtain ⟨p, hp⟩ := Option.isSome_iff_exists.1 ((portOf_isSome _).2 ha.1)
  obtain ⟨mp, hmp⟩ := Option.isSome_iff_exists.1 ((missPolicyOf_isSome _).2 ha.2.1)
  exact ⟨p, _, hp, settingsOf_eq_some ha hmp⟩

/-! ### The two commands by their checks -/

section
variable {s : State} {a : PortArgs} {e : Byte}

theorem slotSetPort_of_outOfRange (h : ¬PortArgsInRange a) :
    slotSetPort a s = s.answer .badArgument := by
  unfold slotSetPort
  split
  next p st hp hst => exact absurd (portArgsInRange_of_some hp hst) h
  next => rfl

theorem slotSetPort_of_locked (h : PortArgsInRange a) (hl : s.configLock = true) :
    slotSetPort a s = s.answer .locked := by
  obtain ⟨p, st, hp, hst⟩ := exists_of_portArgsInRange h
  simp only [slotSetPort, hp, hst, hl, if_true]

theorem slotSetPort_of_accepted {p : Port} {mp : MissPolicy} (h : PortArgsInRange a)
    (hl : s.configLock = false) (hp : portOf a.port = some p)
    (hmp : missPolicyOf a.missPolicy = some mp) :
    slotSetPort a s = (s.writePort p (carriedSettings a mp) a.escalation).done := by
  simp [slotSetPort, hp, settingsOf_eq_some h hmp, hl]

/-- What SET-PORT writes: the port's settings, and port N's escalation time (R184). -/
theorem writePort_eq (s : State) (p : Port) (st : PortSettings) (esc : Byte) :
    s.writePort p st esc =
      { s.modPort p fun ps => { ps with settings := st } with
        mgmt := if p = .N then { s.mgmt with escTime := esc.toNat } else s.mgmt } := by
  cases p <;> rfl

/-- The unused bits of an enable set are those of 64 and above (R204). -/
theorem enables_unused_iff (e : Byte) :
    (e.getLsbD 6 = true ∨ e.getLsbD 7 = true) ↔ 64 ≤ e.toNat := by
  revert e; decide

theorem slotSetAlerts_of_unused (h : 64 ≤ e.toNat) : slotSetAlerts e s = s.answer .badArgument := by
  rw [slotSetAlerts, if_pos ((enables_unused_iff e).2 h)]

theorem slotSetAlerts_of_locked (h : e.toNat < 64) (hl : s.configLock = true) :
    slotSetAlerts e s = s.answer .locked := by
  rw [slotSetAlerts, if_neg (mt (enables_unused_iff e).1 (by omega)), if_pos hl]

theorem slotSetAlerts_of_accepted (h : e.toNat < 64) (hl : s.configLock = false) :
    slotSetAlerts e s = (s.alerting fun x => { x with enables := .ofByte e }).done := by
  rw [slotSetAlerts, if_neg (mt (enables_unused_iff e).1 (by omega)), if_neg (by simp [hl])]

end

/-- Settles O44, command by command: out of range, locked, and written. -/
theorem setPortAndSetAlertsWriteSettings : Obligations.SetPortAndSetAlertsWriteSettings := by
  refine ⟨fun s tag p mp a hready ok hok => ?port, fun s tag e hready => ?alerts⟩
  case port =>
    have hrange : ok ↔ PortArgsInRange a := hok
    have row {r : SlotResult} :=
      exec_of_ready (.setPort tag a) (.setPort a) r hready rfl rfl nofun
    refine
      ⟨fun hbad => row (slotSetPort_of_outOfRange (mt hrange.2 hbad)) ⟨rfl, rfl, rfl⟩,
        fun hin hl => row (slotSetPort_of_locked (hrange.1 hin) hl) ⟨rfl, rfl, rfl⟩,
        fun hin hl hN hforward hdrop => ?_⟩
    have ha := hrange.1 hin
    have hp : portOf a.port = some p := portOf_eq_some ha.1 hN
    have hmp : missPolicyOf a.missPolicy = some mp := missPolicyOf_eq_some ha.2.1 hforward hdrop
    have hrun := slotSetPort_of_accepted ha hl hp hmp
    rw [writePort_eq] at hrun
    refine exec_of_idle (.setPort tag a) (.setPort a) _ hready.1 (by simp [hready.2]) rfl rfl nofun
      hrun ?_ ⟨modPort_responses s p _, modPort_mgmtId s p _⟩
    cases p <;> exact ⟨rfl, rfl⟩
  case alerts =>
    have row {r : SlotResult} :=
      exec_of_ready (.setAlerts tag e) (.setAlerts e) r hready rfl rfl nofun
    exact
      ⟨fun hbad => row (slotSetAlerts_of_unused hbad) ⟨rfl, rfl, rfl⟩,
        fun hin hl => row (slotSetAlerts_of_locked hin hl) ⟨rfl, rfl, rfl⟩,
        fun hin hl =>
          ⟨_, row (slotSetAlerts_of_accepted hin hl)
            ⟨alerting_mgmt s _, alerting_responses s _, alerting_mgmtId s _⟩, rfl⟩⟩

end Sys2Proof.Machine

/-! SUPPORT. Response data as bytes: the order of a field's bytes (R204), and the bits of a byte that carries
flags. -/

namespace Sys2Proof.Machine

/-! ### Fields of two and four bytes -/

/-- The bytes of a word above its last one. -/
theorem extractLsb'_append_above {n : Nat} (x : BitVec n) (b : Byte) (k : Nat) :
    (x ++ b).extractLsb' (8 + k) 8 = x.extractLsb' k 8 := by
  rw [BitVec.extractLsb'_append_eq_of_le (Nat.le_add_right 8 k), Nat.add_sub_cancel_left]

/-- The last byte of a word. -/
theorem extractLsb'_append_last {n : Nat} (x : BitVec n) (b : Byte) :
    (x ++ b).extractLsb' 0 8 = b := by
  rw [BitVec.extractLsb'_append_eq_of_add_le (by omega), BitVec.extractLsb'_eq_self]

theorem be16_append (hi lo : Byte) : be16 (hi ++ lo) = [hi, lo] :=
  congrArg₂ (fun a b => [a, b])
    ((extractLsb'_append_above hi lo 0).trans BitVec.extractLsb'_eq_self)
    (extractLsb'_append_last hi lo)

theorem highByteFirst : HighByteFirst := by
  refine ⟨be16_append, fun b3 b2 b1 b0 => ?_⟩
  have h3 := ((extractLsb'_append_above (b3 ++ b2 ++ b1) b0 16).trans
    (extractLsb'_append_above (b3 ++ b2) b1 8)).trans
      ((extractLsb'_append_above b3 b2 0).trans BitVec.extractLsb'_eq_self)
  have h2 := ((extractLsb'_append_above (b3 ++ b2 ++ b1) b0 8).trans
    (extractLsb'_append_above (b3 ++ b2) b1 0)).trans (extractLsb'_append_last b3 b2)
  have h1 := (extractLsb'_append_above (b3 ++ b2 ++ b1) b0 0).trans
    (extractLsb'_append_last (b3 ++ b2) b1)
  have h0 := extractLsb'_append_last (b3 ++ b2 ++ b1) b0
  simp only [be32, List.cons.injEq, and_true]
  exact ⟨h3, h2, h1, h0⟩

/-! ### Bytes of flags -/

/-- A byte whose bits are the given flags, from bit `n` upward. -/
def flagsFrom : Nat → List Bool → Byte
  | _, [] => 0
  | n, b :: bs => bitAt n b ||| flagsFrom (n + 1) bs

theorem getLsbD_bitAt {n : Nat} (hn : n < 8) (b : Bool) (k : Nat) :
    (bitAt n b).getLsbD k = (b && decide (k = n)) := by
  cases b with
  | false => simp [bitAt]
  | true =>
    rw [Bool.eq_iff_iff]
    simp [bitAt, BitVec.getLsbD_shiftLeft]
    omega

/-- Each flag stands in its own bit, and every other bit is zero. -/
theorem getLsbD_flagsFrom (bs : List Bool) (n k : Nat) (hn : n + bs.length ≤ 8) :
    (flagsFrom n bs).getLsbD k = (decide (n ≤ k) && bs.getD (k - n) false) := by
  induction bs generalizing n with
  | nil => simp [flagsFrom]
  | cons b bs ih =>
    rw [List.length_cons] at hn
    rw [flagsFrom, BitVec.getLsbD_or, getLsbD_bitAt (by omega), ih (n + 1) (by omega)]
    rcases Nat.lt_trichotomy k n with h | rfl | h
    · have h1 : ¬n ≤ k := by omega
      have h2 : ¬n + 1 ≤ k := by omega
      have h3 : k ≠ n := by omega
      simp [h1, h2, h3]
    · simp
    · obtain ⟨m, rfl⟩ : ∃ m, k = n + 1 + m := ⟨k - (n + 1), by omega⟩
      have h1 : n + 1 + m - n = m + 1 := by omega
      have h2 : n ≤ n + 1 + m := by omega
      have h3 : n + 1 + m ≠ n := by omega
      simp [h1, h2, h3]

/-- A byte of flags, the first in bit 0. -/
theorem getLsbD_flags {bs : List Bool} (hbs : bs.length ≤ 8) (k : Nat) :
    (flagsFrom 0 bs).getLsbD k = bs.getD k false := by
  rw [getLsbD_flagsFrom bs 0 k (by omega)]
  simp

/-! ### Bytes by their place -/

/-- The byte an image has at place `n`, from what it has there and behind. -/
theorem getD_of_drop_eq_cons {d rest : List Byte} {n : Nat} {b : Byte} (h : d.drop n = b :: rest) :
    d.getD n 0 = b := by
  rw [List.getD_eq_getElem?_getD, ← List.head?_drop, h]
  rfl

theorem drop_succ_of_drop_eq_cons {d rest : List Byte} {n : Nat} {b : Byte}
    (h : d.drop n = b :: rest) : d.drop (n + 1) = rest := by
  rw [← List.drop_drop, h]
  rfl

end Sys2Proof.Machine

/-! SUPPORT. READ-ENTRY and READ-COUNTERS (R177, R179): the entry image part by part (R208, R209), the counter
sets and their clearing, and O50 from them. -/

namespace Sys2Proof.Machine

/-! ### The entry image -/

theorem stateCodes : StateCodes := ⟨rfl, rfl, rfl, rfl, rfl⟩

theorem portCodes : PortCodes := ⟨rfl, rfl⟩

theorem entryFieldCodes : EntryFieldCodes :=
  ⟨⟨rfl, rfl, rfl⟩, ⟨rfl, rfl⟩, ⟨rfl, rfl⟩, ⟨rfl, rfl⟩, rfl, rfl⟩

theorem length_preloadBytes (o : Option Tune) : (preloadBytes o).length = 7 := by cases o <;> rfl

theorem length_cadenceBytes (o : Option Tracker) : (cadenceBytes o).length = 21 := by
  cases o with
  | none => rfl
  | some t => simp [cadenceBytes, length_preloadBytes]

/-- Bytes 0 to 11 of a written entry's image. -/
theorem take_entryImage (listed : Bool) (e : Entry) :
    (entryImage listed (some e)).take 12 =
      [stateCode e.state, portCode e.keyPort] ++ be16 (e.streamId.setWidth 16) ++
        [actionCode e.action, classCode e.cls, countByte e.group.val, boolByte e.seqCheck,
          boolByte e.expSeq.isSome, e.expSeq.getD 0,
          (e.tracker.map fun t => trackModeCode t.mode).getD 0, boolByte listed] := rfl

theorem boolByte_isSome (o : Option Byte) : boolByte o.isSome = if o = none then 0 else 1 := by
  cases o <;> simp [boolByte]

theorem boolByte_contains (l : List Byte) (i : Byte) :
    boolByte (l.contains i) = if i ∈ l then 1 else 0 := by
  simp [boolByte]

/-- Bytes 12 onward of a written entry's image: its cadence part and its counters. -/
theorem drop_entryImage (listed : Bool) (e : Entry) :
    (entryImage listed (some e)).drop 12 = cadenceBytes e.tracker ++ e.counters.bytes := rfl

theorem length_entryImage (listed : Bool) (o : Option Entry) : (entryImage listed o).length = 61 := by
  cases o with
  | none => rfl
  | some e => simp [entryImage, length_cadenceBytes, EntryCounters.bytes, be16, be32]

/-- Bytes 33 onward: the counters, whatever the cadence part is. -/
theorem drop_entryImage_counters (listed : Bool) (e : Entry) :
    (entryImage listed (some e)).drop 33 = e.counters.bytes := by
  have hsplit : (entryImage listed (some e)).drop 33 =
      ((entryImage listed (some e)).drop 12).drop 21 := by rw [List.drop_drop]
  rw [hsplit, drop_entryImage, List.drop_left' (length_cadenceBytes e.tracker)]

/-- The four flags of a tracker, as byte 25 carries them. -/
theorem trackerFlags_eq (t : Tracker) :
    bitAt 0 t.overflow ||| bitAt 1 t.scaleUp ||| bitAt 2 t.scaleDown ||| bitAt 3 t.scaleLimit =
      flagsFrom 0 [t.overflow, t.scaleUp, t.scaleDown, t.scaleLimit] := by
  simp [flagsFrom, BitVec.or_assoc]

/-- The given mask of a preload names the fields that are given (R208). -/
theorem tuneMask_eq (u : Tune) :
    u.mask =
      flagsFrom 0 [u.weight.isSome, u.basis.isSome, u.missLimit.isSome, u.gapPolicy.isSome,
        u.mode.isSome, u.fixedDeadline.isSome] := by
  simp [Tune.mask, flagsFrom, BitVec.or_assoc]

section
variable {e : Entry} {t : Tracker}

/-- Bytes 25 onward of a tracked entry's image: the flags, the preload and the counters. -/
theorem drop_entryImage_flags (listed : Bool) (ht : e.tracker = some t) :
    (entryImage listed (some e)).drop 25 =
      flagsFrom 0 [t.overflow, t.scaleUp, t.scaleDown, t.scaleLimit] ::
        (preloadBytes t.preload ++ e.counters.bytes) := by
  rw [← trackerFlags_eq]
  simp only [entryImage, ht]
  rfl

theorem drop_entryImage_preload (listed : Bool) (ht : e.tracker = some t) :
    (entryImage listed (some e)).drop 26 = preloadBytes t.preload ++ e.counters.bytes :=
  drop_succ_of_drop_eq_cons (drop_entryImage_flags listed ht)

/-- Bytes 26 onward where a preload stands: its given mask and its six fields (R208). -/
theorem drop_entryImage_mask {u : Tune} (listed : Bool) (ht : e.tracker = some t)
    (hu : t.preload = some u) :
    (entryImage listed (some e)).drop 26 =
      flagsFrom 0 [u.weight.isSome, u.basis.isSome, u.missLimit.isSome, u.gapPolicy.isSome,
          u.mode.isSome, u.fixedDeadline.isSome] ::
        ([countByte (u.weight.getD 0), (u.basis.map basisCode).getD 0,
            countByte (u.missLimit.getD 0), (u.gapPolicy.map gapPolicyCode).getD 0,
            (u.mode.map trackModeCode).getD 0, countByte (u.fixedDeadline.getD 0)] ++
          e.counters.bytes) := by
  rw [drop_entryImage_preload listed ht, hu, ← tuneMask_eq]
  rfl

end

/-! ### Counter sets -/

/-- A byte 0 or 1 is a switch, ON at 1 (R206). -/
theorem switchOf_of_le {x : Byte} (h : x.toNat ≤ 1) : switchOf x = some (decide (x = 1)) :=
  (switchOf_eq x _).2 ⟨h, decide_eq_true_iff⟩

section
variable {s : State} {kind target clear : Byte}

theorem slotReadCounters_of_badArgument
    (h : 1 < kind.toNat ∨ 1 < clear.toNat ∨ (kind = 1 ∧ 1 < target.toNat)) :
    slotReadCounters kind target clear s = s.answer .badArgument := by
  unfold slotReadCounters
  split
  next c hkind hclear =>
    obtain ⟨hkind, hentry⟩ := (switchOf_eq kind _).1 hkind
    obtain ⟨hclear, -⟩ := (switchOf_eq clear _).1 hclear
    rcases h with h | h | ⟨h, -⟩
    · omega
    · omega
    · exact absurd (hentry.2 h) Bool.false_ne_true
  next c hkind hclear =>
    obtain ⟨hkind, -⟩ := (switchOf_eq kind _).1 hkind
    obtain ⟨hclear, -⟩ := (switchOf_eq clear _).1 hclear
    split
    next => rfl
    next p hp =>
      have htarget := (portOf_isSome target).1 (hp ▸ rfl)
      omega
  next => rfl

/-- READ-COUNTERS of an entry, cleared on request (R177). -/
theorem slotReadCounters_of_entry (h : clear.toNat ≤ 1) :
    slotReadCounters 0 target clear s =
      ⟨.done, [0, target] ++ (((s.entry target).map Entry.counters).getD .zero).bytes,
        if clear = 1 then s.modEntry target fun e => { e with counters := .zero } else s⟩ := by
  have hkind : switchOf 0 = some false := rfl
  simp only [slotReadCounters, hkind, switchOf_of_le h, readEntryCounters, decide_eq_true_eq]
  rfl

/-- READ-COUNTERS of a port, cleared on request (R177). -/
theorem slotReadCounters_of_port (p : Port) (h : clear.toNat ≤ 1) :
    slotReadCounters 1 (portCode p) clear s =
      ⟨.done, [1, portCode p] ++ (s.port p).counters.bytes,
        if clear = 1 then s.modPort p fun ps => { ps with counters := .zero } else s⟩ := by
  have hkind : switchOf 1 = some true := rfl
  simp only [slotReadCounters, hkind, switchOf_of_le h, portOf_portCode, readPortCounters,
    decide_eq_true_eq]
  rfl

end

/-- Settles O50: the codes, the entry image place by place, and READ-COUNTERS by its kind. -/
theorem readEntryAndReadCountersReport : Obligations.ReadEntryAndReadCountersReport := by
  refine ⟨stateCodes, portCodes, entryFieldCodes, highByteFirst,
    fun s tag hready i => ?entry, fun s tag hready => ?counters⟩
  case entry =>
    have row := exec_of_ready (.readEntry tag i) (.readEntry i) (slotReadEntry i s) hready rfl rfl
      nofun rfl ⟨rfl, rfl, rfl⟩
    refine ⟨_, row, length_entryImage _ _, fun hfree => ?free, fun e he => ?written⟩
    case free => simp only [slotReadEntry, hfree]; rfl
    case written =>
      simp only [slotReadEntry, he]
      refine ⟨?head, fun hoff => ?untracked, fun t ht => ⟨?settings, fun k => ?flags,
        fun hnone => ?noPreload, fun u hu => ⟨fun k => ?mask, ?fields⟩⟩, ?counts⟩
      case head =>
        rw [take_entryImage, boolByte_isSome, boolByte_contains]
        cases e.tracker <;> rfl
      case untracked =>
        rw [drop_entryImage, hoff]
        rfl
      case settings =>
        rw [drop_entryImage, ht]
        rfl
      case flags =>
        rw [getD_of_drop_eq_cons (drop_entryImage_flags _ ht), getLsbD_flags (by simp)]
      case noPreload =>
        rw [drop_entryImage_preload _ ht, hnone]
        rfl
      case mask =>
        rw [getD_of_drop_eq_cons (drop_entryImage_mask _ ht hu), getLsbD_flags (by simp)]
      case fields =>
        rw [drop_succ_of_drop_eq_cons (drop_entryImage_mask _ ht hu)]
        rfl
      case counts => exact drop_entryImage_counters _ e
  case counters =>
    refine ⟨fun kind target clear hbad => ?bad, fun i clear k hclear hk => ?ofEntry,
      fun p clear k hclear hk => ?ofPort⟩
    case bad =>
      exact exec_of_ready (.readCounters tag kind target clear) (.readCounters kind target clear) _
        hready rfl rfl nofun (slotReadCounters_of_badArgument hbad) ⟨rfl, rfl, rfl⟩
    case ofEntry =>
      have hset : k = ((s.entry i).map Entry.counters).getD .zero := by
        rw [hk]
        cases s.entry i <;> rfl
      have hrun := slotReadCounters_of_entry (s := s) (target := i) hclear
      rw [← hset] at hrun
      refine exec_of_ready (.readCounters tag 0 i clear) (.readCounters 0 i clear) _
        hready rfl rfl nofun hrun ?_
      split <;> exact ⟨rfl, rfl, rfl⟩
    case ofPort =>
      have hrun := slotReadCounters_of_port (s := s) p hclear
      rw [← hk] at hrun
      refine exec_of_ready (.readCounters tag 1 (portCode p) clear)
        (.readCounters 1 (portCode p) clear) _ hready rfl rfl nofun hrun ?_
      split
      · exact ⟨modPort_mgmt s p _, modPort_responses s p _, modPort_mgmtId s p _⟩
      · exact ⟨rfl, rfl, rfl⟩

end Sys2Proof.Machine

/-! SUPPORT. IDENTIFY and READ-STATUS (R175, R176): the status image part by part (R208), the bits of its
flag bytes, and O42 from them. -/

namespace Sys2Proof.Machine

/-! ### Codes -/

theorem statusCodes : StatusCodes :=
  ⟨rfl, rfl, rfl, rfl, rfl, rfl, rfl, rfl, rfl, rfl, rfl, rfl, rfl, rfl⟩

theorem causeSet_byte_eq (c : CauseSet) :
    c.byte =
      flagsFrom 0 [c.linkEvent, c.frozen, c.poolExhausted, c.lapse, c.holdExpired, c.diverted] := by
  simp [CauseSet.byte, flagsFrom, BitVec.or_assoc]

theorem causeBits : CauseBits := fun c n => by
  rw [causeSet_byte_eq, getLsbD_flags (by simp)]

theorem identityBytes_eq : identityBytes = [0x2E, 0x71, 0x04, 0x12, 0x03, 0x01, 0x00, 0xA0] := by
  decide

/-! ### The flag bytes of the status image -/

/-- The management unit's flags, as byte 5 carries them (R208). -/
theorem unitFlags_eq (m : Mgmt) :
    bitAt 0 m.heldEvent ||| bitAt 1 m.escalated ||| bitAt 2 m.escTimer.isSome =
      flagsFrom 0 [m.heldEvent, m.escalated, m.escTimer.isSome] := by
  simp [flagsFrom, BitVec.or_assoc]

theorem maskByte_eq_flags (v : Vector Bool 8) :
    maskByte v = flagsFrom 0 [v[0], v[1], v[2], v[3], v[4], v[5], v[6], v[7]] := by
  simp [maskByte, flagsFrom, BitVec.or_assoc]

theorem getLsbD_maskByte (v : Vector Bool 8) (g : Fin 8) : (maskByte v).getLsbD g = v[g] := by
  rw [maskByte_eq_flags, getLsbD_flags (by simp)]
  fin_cases g <;> rfl

/-- The gates byte is the mask of the closed gates (R208). -/
theorem gateByte_eq_maskByte (v : Vector Gate 8) : gateByte v = maskByte (v.map (· == .closed)) := by
  simp [gateByte, maskByte]

theorem getLsbD_gateByte (v : Vector Gate 8) (g : Fin 8) :
    (gateByte v).getLsbD g = decide (v[g] = .closed) := by
  rw [gateByte_eq_maskByte, getLsbD_maskByte]
  simp [beq_eq_decide]

/-! ### The status image by its places -/

/-- Bytes 2 to 19 of the status image: the freeze input and the management unit (R208). -/
def statusUnit (s : State) : List Byte :=
  [boolByte s.freezeLow] ++ be16 (s.mgmtId.setWidth 16) ++
    [flagsFrom 0 [s.mgmt.heldEvent, s.mgmt.escalated, s.mgmt.escTimer.isSome]] ++
    be32 s.mgmt.unanswered ++ be32 s.mgmt.linkEvents ++ countBytes s.mgmt.nextIndex ++
    [countByte s.mgmt.remaining] ++ countBytes s.mgmt.reload ++ [countByte s.mgmt.step]

/-- Bytes 25 to 46 of the status image: ports, queues, gates, locks and alerts (R208). -/
def statusRest (s : State) : List Byte :=
  portBytes s.portN ++ portBytes s.portS ++
    [countByte s.free.length, countByte s.portN.cyclic.length, countByte s.portN.acyclic.length,
      countByte s.portS.cyclic.length, countByte s.portS.acyclic.length,
      countByte s.divert.length, countByte s.responses.length, gateByte s.gates,
      maskByte s.groupLocks, boolByte s.configLock, countByte s.lapseList.length,
      boolByte s.lapseOverflow, s.pendingCauses.byte, s.enables.byte]

theorem length_modeBytes (m : RunMode) : (modeBytes m).length = 2 := by
  rcases m with _ | _ | (_ | _) <;> rfl

theorem length_lastLoadBytes (o : Option LoadResult) : (lastLoadBytes o).length = 5 := by
  cases o <;> rfl

theorem statusImage_eq (s : State) :
    statusImage s =
      modeBytes s.mode ++ (statusUnit s ++ (lastLoadBytes s.mgmt.lastLoad ++ statusRest s)) := by
  simp only [statusImage, unitFlags_eq, statusUnit, statusRest, List.append_assoc]

theorem length_statusImage (s : State) : (statusImage s).length = 47 := by
  have hunit : (statusUnit s).length = 18 := rfl
  have hrest : (statusRest s).length = 22 := rfl
  simp only [statusImage_eq, List.length_append, length_modeBytes, hunit, length_lastLoadBytes, hrest]

theorem take_statusImage (s : State) : (statusImage s).take 2 = modeBytes s.mode := by
  rw [statusImage_eq, List.take_left' (length_modeBytes _)]

theorem drop_statusImage_unit (s : State) (n : Nat) :
    (statusImage s).drop (2 + n) =
      (statusUnit s ++ (lastLoadBytes s.mgmt.lastLoad ++ statusRest s)).drop n := by
  rw [← List.drop_drop, statusImage_eq, List.drop_left' (length_modeBytes _)]

theorem drop_statusImage_lastLoad (s : State) :
    (statusImage s).drop 20 = lastLoadBytes s.mgmt.lastLoad ++ statusRest s :=
  drop_statusImage_unit s 18

theorem drop_statusImage_rest (s : State) (n : Nat) :
    (statusImage s).drop (25 + n) = (statusRest s).drop n := by
  have hsplit : (statusImage s).drop 25 = ((statusImage s).drop 20).drop 5 := by rw [List.drop_drop]
  rw [← List.drop_drop, hsplit, drop_statusImage_lastLoad, List.drop_left' (length_lastLoadBytes _)]

/-- A port's four bytes, at 25 for port N and at 29 for port S. -/
theorem take_statusImage_port (s : State) (p : Port) :
    ((statusImage s).drop (if p = .N then 25 else 29)).take 4 = portBytes (s.port p) := by
  cases p with
  | N => exact congrArg (List.take 4) (drop_statusImage_rest s 0)
  | S => exact congrArg (List.take 4) (drop_statusImage_rest s 4)

theorem boolByte_isUp (ps : PortState) :
    boolByte ps.isUp = if ps.receiver = .off then 0 else 1 := by
  by_cases h : ps.receiver = .off <;> simp [boolByte, PortState.isUp, h]

theorem boolByte_paused (ps : PortState) :
    boolByte (ps.pauseState == .paused) = if ps.pauseState = .paused then 1 else 0 := by
  simp [boolByte]

/-- Settles O42: the codes, the identity, and the status image place by place. -/
theorem identifyAndReadStatusReport : Obligations.IdentifyAndReadStatusReport := by
  refine ⟨statusCodes, causeBits, highByteFirst, fun s tag hidle => ⟨?identity, ?status⟩⟩
  case identity =>
    rw [← identityBytes_eq]
    exact exec_of_idle (.identify tag) .identify (slotIdentify s) hidle (fun _ => rfl) rfl rfl nofun
      rfl ⟨rfl, rfl⟩ ⟨rfl, rfl⟩
  case status =>
    have row := exec_of_idle (.readStatus tag) .readStatus (slotReadStatus s) hidle (fun _ => rfl) rfl
      rfl nofun rfl ⟨rfl, rfl⟩ ⟨rfl, rfl⟩
    have unit := drop_statusImage_unit s
    have rest := drop_statusImage_rest s
    refine ⟨statusImage s, row, length_statusImage s, ?mode, getD_of_drop_eq_cons (unit 0),
      congrArg (List.take 2) (unit 1), ?flags, congrArg (List.take 4) (unit 4),
      congrArg (List.take 4) (unit 8), congrArg (List.take 6) (unit 12), ?lastLoad, fun p => ?port,
      congrArg (List.take 7) (rest 8), fun g => ⟨?gate, ?lock⟩, rest 17⟩
    case mode =>
      rw [take_statusImage]
      rcases s.mode with _ | _ | (_ | _) <;> rfl
    case flags =>
      rw [getD_of_drop_eq_cons (unit 3)]
      exact ⟨getLsbD_flags (by simp) 0, getLsbD_flags (by simp) 1, getLsbD_flags (by simp) 2⟩
    case lastLoad =>
      rw [drop_statusImage_lastLoad, List.take_left' (length_lastLoadBytes _)]
      cases s.mgmt.lastLoad <;> rfl
    case port =>
      rw [take_statusImage_port, portBytes, boolByte_isUp, boolByte_paused]
      rfl
    case gate => rw [getD_of_drop_eq_cons (rest 15), getLsbD_gateByte]
    case lock => rw [getD_of_drop_eq_cons (rest 16), getLsbD_maskByte]

end Sys2Proof.Machine

/-! SUPPORT. The alert unit (R191 to R193) and the two commands that answer to it (R163, R195): what a claim
does by how the active set changes, the highest pending cause in the order of the table, and O38 and O43 from
them. -/

namespace Sys2Proof.Machine

/-! ### A claim by the active set before and after it -/

section
variable {s : State} {claim : State → State}

/-- The active set becomes non-empty and the slot is free: the ALERT is built from the state the claim leaves
(R193). -/
theorem alerting_of_rise (hbefore : s.anyActive = false) (hafter : (claim s).anyActive = true)
    (hslot : (claim s).alertSlot = none) :
    s.alerting claim =
      { claim s with
        alertNumber := (claim s).alertNumber + 1
        alertSlot :=
          some ⟨(claim s).mgmtId, (claim s).alertNumber + 1,
            (claim s).pendingCauses.highest, (claim s).pendingCauses⟩ } := by
  simp [State.alerting, hbefore, hafter, placeAlert_of_empty (claim s) hslot]

/-- An active set that held a cause before cannot become non-empty (R193). -/
theorem alerting_of_active_before (hbefore : s.anyActive = true) : s.alerting claim = claim s := by
  simp [State.alerting, hbefore]

/-- A full slot keeps its frame, and the alert number with it (R193). -/
theorem alerting_of_full (hslot : (claim s).alertSlot ≠ none) : s.alerting claim = claim s := by
  obtain ⟨a, ha⟩ := Option.ne_none_iff_exists'.1 hslot
  rw [State.alerting, placeAlert_of_full (claim s) a ha, ite_self]

end

/-! ### The active set and the highest cause -/

/-- The active set is the pending set masked by the enable set, cause by cause (R192). -/
theorem anyActive_iff (s : State) :
    s.anyActive = true ↔
      (s.pendingCauses.linkEvent = true ∧ s.enables.linkEvent = true) ∨
        (s.pendingCauses.frozen = true ∧ s.enables.frozen = true) ∨
        (s.pendingCauses.poolExhausted = true ∧ s.enables.poolExhausted = true) ∨
        (s.pendingCauses.lapse = true ∧ s.enables.lapse = true) ∨
        (s.pendingCauses.holdExpired = true ∧ s.enables.holdExpired = true) ∨
        (s.pendingCauses.diverted = true ∧ s.enables.diverted = true) := by
  simp only [State.anyActive, Bool.or_eq_true, Bool.and_eq_true, or_assoc]

/-- Settles O38. A claim is told apart by the active set and the slot; the highest cause by the first pending
one in the order of R190's table. -/
theorem alertsFollowTheActiveSet : Obligations.AlertsFollowTheActiveSet := by
  refine ⟨fun s claim => ⟨alerting_of_rise, ?noRise⟩, ?active, fun c => ?highest⟩
  case noRise =>
    rintro (hbefore | hafter | hslot)
    · exact alerting_of_active_before hbefore
    · exact alerting_of_not_active s claim hafter
    · exact alerting_of_full hslot
  case active =>
    rintro s _ _ rfl rfl
    exact anyActive_iff s
  case highest =>
    obtain ⟨linkEvent, frozen, poolExhausted, lapse, holdExpired, diverted⟩ := c
    simp only [CauseSet.highest]
    split_ifs with hlink hfrozen hpool hlapse hhold hdiverted
    all_goals simp [*]

/-- Settles O43: both commands are admitted while HELD, so that an idle unit executes and answers either of
them at its arrival. -/
theorem readAlertsAndAckEventClear : Obligations.ReadAlertsAndAckEventClear := by
  refine ⟨causeBits, fun s tag hidle => ⟨?read, ?ack⟩⟩
  case read =>
    exact exec_of_idle (.readAlerts tag) .readAlerts (slotReadAlerts s) hidle (fun _ => rfl) rfl rfl
      nofun rfl ⟨rfl, rfl⟩ ⟨rfl, rfl⟩
  case ack =>
    exact exec_of_idle (.ackEvent tag) .ackEvent (slotAckEvent s) hidle (fun _ => rfl) rfl rfl nofun
      rfl ⟨rfl, rfl⟩ ⟨rfl, rfl⟩

end Sys2Proof.Machine

/-! SUPPORT. What the operations on the pool, the queues and the transmitters write: the fields that the frame
lemmas of Laws/State leave out. -/

namespace Sys2Proof.Machine

@[simp] theorem release_free (s : State) (b : BufId) : (s.release b).free = b :: s.free := rfl

@[simp] theorem dropFrame_free (s : State) (b : BufId) : (s.dropFrame b).free = b :: s.free := rfl

@[simp] theorem releaseAll_free (s : State) (bs : List BufId) :
    (s.releaseAll bs).free = bs ++ s.free := rfl

@[simp] theorem endTx_free (s : State) (p : Port) (tx : Tx) :
    (s.endTx p tx).free = (s.port p).tx.bufs ++ s.free := by
  simp [State.endTx]

@[simp] theorem endTx_port_self (s : State) (p : Port) (tx : Tx) :
    (s.endTx p tx).port p = { s.port p with tx := tx } := by
  simp [State.endTx]

@[simp] theorem endTx_port_opp (s : State) (p : Port) (tx : Tx) :
    (s.endTx p tx).port p.opp = s.port p.opp := by
  simp [State.endTx]

@[simp] theorem emptyQueues_free (s : State) (p : Port) :
    (s.emptyQueues p).free = descrBufs (s.port p).cyclic ++ (s.port p).acyclic ++ s.free := by
  simp [State.emptyQueues]

@[simp] theorem emptyQueues_port_self (s : State) (p : Port) :
    (s.emptyQueues p).port p = { s.port p with cyclic := [], acyclic := [] } := by
  simp [State.emptyQueues]

@[simp] theorem emptyQueues_port_opp (s : State) (p : Port) :
    (s.emptyQueues p).port p.opp = s.port p.opp := by
  simp [State.emptyQueues]

@[simp] theorem flushQueues_free (s : State) (p : Port) :
    (s.flushQueues p).free = descrBufs (s.port p).cyclic ++ (s.port p).acyclic ++ s.free := by
  simp [State.flushQueues]

@[simp] theorem flushQueues_port_self (s : State) (p : Port) :
    (s.flushQueues p).port p = { s.port p with cyclic := [], acyclic := [] } := by
  simp [State.flushQueues]

@[simp] theorem flushQueues_port_opp (s : State) (p : Port) :
    (s.flushQueues p).port p.opp = (s.port p.opp).drainReport 0 := by
  simp [State.flushQueues]

/-- An abandoned transmission's buffer is freed (R129). -/
@[simp] theorem abandon_free (s : State) (p : Port) :
    (s.abandon p).free = (s.port p).tx.bufs ++ s.free := by
  unfold State.abandon
  cases htx : (s.port p).tx <;> simp [Tx.isSending, Tx.bufs, htx]

@[simp] theorem abandon_port_self (s : State) (p : Port) :
    (s.abandon p).port p =
      { s.port p with
        tx := if (s.port p).tx.isSending then .spacing .abort else (s.port p).tx } := by
  unfold State.abandon
  split <;> simp

@[simp] theorem abandon_port_opp (s : State) (p : Port) :
    (s.abandon p).port p.opp = s.port p.opp := by
  unfold State.abandon
  split <;> simp

/-- A state is read at a port from the two ports alone. -/
theorem port_congr {s t : State} (hN : t.portN = s.portN) (hS : t.portS = s.portS) (p : Port) :
    t.port p = s.port p := by
  cases p
  · exact hN
  · exact hS

@[simp] theorem port_with_free (s : State) (l : List BufId) (p : Port) :
    ({ s with free := l } : State).port p = s.port p :=
  port_congr rfl rfl p

/-- A change of one port is told by the two ports after it. -/
theorem modPort_eq (s : State) (p : Port) (f : PortState → PortState) :
    s.modPort p f = { s with portN := (s.modPort p f).portN, portS := (s.modPort p f).portS } := by
  cases p <;> rfl

/-- Freeing a buffer and changing a port can be made in either order. -/
theorem release_modPort (s : State) (p : Port) (f : PortState → PortState) (b : BufId) :
    (s.modPort p f).release b = (s.release b).modPort p f := by
  cases p <;> rfl

/-- Changes of the two ports can be made in either order. -/
theorem modPort_opp_comm (s : State) (p : Port) (f g : PortState → PortState) :
    (s.modPort p.opp g).modPort p f = (s.modPort p f).modPort p.opp g := by
  cases p <;> rfl

/-! ### Ports UP and DOWN, and the space of their queues -/

theorem isUp_iff (ps : PortState) : ps.isUp = true ↔ ps.receiver ≠ .off := by
  simp [PortState.isUp]

theorem isUp_eq_false_iff (ps : PortState) : ps.isUp = false ↔ ps.receiver = .off := by
  simp [PortState.isUp]

/-- Whether a marker fits (R104). -/
theorem takesMarker_iff (ps : PortState) :
    ps.takesMarker = true ↔ ps.receiver ≠ .off ∧ ps.cyclic.length < 32 := by
  rw [PortState.takesMarker, Bool.and_eq_true, decide_eq_true_iff, isUp_iff]
  rfl

/-- What a cyclic placement finds (R55, R56). -/
theorem placement_cyclic (ps : PortState) :
    ps.placement .cyclic =
      if ps.receiver = .off then .down else if ps.cyclic.length < 32 then .queued else .full := by
  by_cases h : ps.receiver = .off
  · simp [PortState.placement, PortState.isUp, h]
  · simp only [PortState.placement, (isUp_iff ps).2 h, h, if_false]
    rfl

/-- What an acyclic placement finds (R55, R56). -/
theorem placement_acyclic (ps : PortState) :
    ps.placement .acyclic =
      if ps.receiver = .off then .down else if ps.acyclic.length < 64 then .queued else .full := by
  by_cases h : ps.receiver = .off
  · simp [PortState.placement, PortState.isUp, h]
  · simp only [PortState.placement, (isUp_iff ps).2 h, h, if_false]
    rfl

theorem receiver_ne_off_of_queued {ps : PortState} {cls : StreamClass}
    (h : ps.placement cls = .queued) : ps.receiver ≠ .off := by
  intro hoff
  cases cls <;> simp [placement_cyclic, placement_acyclic, hoff] at h

/-! ### The warm reset -/

@[simp] theorem warmReset_port (s : State) (p : Port) :
    s.warmReset.port p = (s.port p).warm s.configLock := by
  rw [warmReset_frame]
  cases p <;> rfl

@[simp] theorem warmReset_free (s : State) : s.warmReset.free = allBuffers := by
  rw [warmReset_frame]
  rfl

@[simp] theorem warmReset_divert (s : State) : s.warmReset.divert = [] := by
  rw [warmReset_frame]
  rfl

@[simp] theorem warmReset_responses (s : State) : s.warmReset.responses = s.responses := by
  rw [warmReset_frame]
  rfl

@[simp] theorem warmReset_lapseList (s : State) : s.warmReset.lapseList = [] := by
  rw [warmReset_frame]
  rfl

@[simp] theorem warmReset_mgmtId (s : State) : s.warmReset.mgmtId = s.mgmtId := by
  rw [warmReset_frame]
  rfl

@[simp] theorem warmReset_contents (s : State) : s.warmReset.contents = s.contents := by
  rw [warmReset_frame]
  rfl

@[simp] theorem warmReset_freezeLow (s : State) : s.warmReset.freezeLow = s.freezeLow := by
  rw [warmReset_frame]
  rfl

/-- The mode after a warm reset follows the freeze input (R202). -/
@[simp] theorem warmReset_mode (s : State) :
    s.warmReset.mode = if s.freezeLow then .halted .freeze else .bypass := by
  unfold State.warmReset State.readFreeze
  cases h : s.freezeLow <;> simp [State.warmBlocks, h, State.setFrozen]

/-- Warm reset clears the held causes, and the reading of an asserted freeze input sets FROZEN (R202). -/
@[simp] theorem warmReset_causes (s : State) :
    s.warmReset.causes = ⟨false, s.freezeLow, false, false⟩ := by
  unfold State.warmReset State.readFreeze
  cases h : s.freezeLow <;> simp [State.warmBlocks, h, State.setFrozen, HeldCauses.clear]

end Sys2Proof.Machine

/-! SUPPORT. The elementary moves: what one command can do to a running part, cut into the smallest changes
that keep every law but the management unit's. A buffer that has left one place and not reached the next is
in the claim's hand. -/

namespace Sys2Proof.Machine

/-! ### What a move of one port keeps -/

/-- Two states of a port hold the same buffers and descriptors at the same places, and the later one sends
traffic only if the earlier one does. -/
def PortState.SameFrames (a b : PortState) : Prop :=
  b.receiver.bufs = a.receiver.bufs ∧ b.cyclic = a.cyclic ∧ b.acyclic = a.acyclic ∧
    b.tx.bufs = a.tx.bufs ∧ (b.tx.sendsTraffic = true → a.tx.sendsTraffic = true)

/-- The port law at one port. -/
def PortState.Lawful (ps : PortState) : Prop := ps.FlowSound ∧ ps.DownRests

/-- Buffer `b` holds an intact frame of a kind that is handed to the classifier (R16). -/
def State.HoldsIntact (s : State) (b : BufId) : Prop :=
  ∃ f, parseFrame s.contents[b] = some f ∧ f.kind ≠ .pause ∧ f.kind ≠ .resume

/-! ### The moves -/

/-- One elementary move, from a hand and a state to a hand and a state. -/
inductive Move : List BufId × State → List BufId × State → Prop
  /-- A port changes in what holds no buffer: its counters, its flow controller, its control slot. -/
  | port (h : List BufId) (s : State) (p : Port) (f : PortState → PortState)
      (hframes : (s.port p).SameFrames (f (s.port p)))
      (hlaw : (s.port p).Lawful → (f (s.port p)).Lawful) :
      Move (h, s) (h, s.modPort p f)
  /-- A receiver claims the first free buffer (R12). -/
  | claim (h : List BufId) (s : State) (p : Port) (b : BufId) (rest : List BufId)
      (hfree : s.free = b :: rest)
      (hrecv : (s.port p).receiver = .hunt ∨ (s.port p).receiver = .skip) :
      Move (h, s)
        (h, ({ s with free := rest }.store b []).modPort p fun ps => ps.setReceiver (.fill b))
  /-- The buffer a receiver fills takes other bytes (R12, R13). -/
  | store (h : List BufId) (s : State) (p : Port) (b : BufId) (bytes : List Byte)
      (hrecv : (s.port p).receiver = .fill b) (hlength : bytes.length ≤ 247) :
      Move (h, s) (h, s.store b bytes)
  /-- A reception ends, its buffer in the hand (R14, R15). -/
  | lift (h : List BufId) (s : State) (p : Port) (b : BufId) (r : Receiver)
      (hrecv : (s.port p).receiver = .fill b) (hnext : r = .hunt ∨ r = .skip) :
      Move (h, s) (b :: h, s.modPort p fun ps => ps.setReceiver r)
  /-- The buffer in the hand is freed (R117). -/
  | release (h : List BufId) (s : State) (b : BufId) : Move (b :: h, s) (h, s.release b)
  /-- The frame in the hand joins an egress queue with space (R56). -/
  | enqueue (h : List BufId) (s : State) (p : Port) (cls : StreamClass) (b : BufId)
      (hplace : (s.port p).placement cls = .queued) (hmode : s.mode.isHalted = false)
      (hintact : s.HoldsIntact b) :
      Move (b :: h, s) (h, s.modPort p fun ps => ps.enqueue cls b)
  /-- A gap marker joins a cyclic queue with space (R104). -/
  | mark (h : List BufId) (s : State) (p : Port) (m : Marker)
      (hfits : (s.port p).takesMarker = true) (hmode : s.mode.isHalted = false) :
      Move (h, s) (h, s.modPort p fun ps => { ps with cyclic := ps.cyclic ++ [.marker m] })
  /-- The frame in the hand joins the divert queue (R54). -/
  | divert (h : List BufId) (s : State) (d : DivertDescr) (hspace : s.divert.length < 16)
      (hintact : s.HoldsIntact d.buf) :
      Move (d.buf :: h, s) (h, { s with divert := s.divert ++ [d] })
  /-- The head of the divert queue is read, its buffer in the hand (R58). -/
  | undivert (h : List BufId) (s : State) (d : DivertDescr) (rest : List DivertDescr)
      (hqueue : s.divert = d :: rest) :
      Move (h, s) (d.buf :: h, { s with divert := rest })
  /-- The head of a cyclic queue goes into transmission (R127). -/
  | sendCyclic (h : List BufId) (s : State) (p : Port) (d : Descr) (rest : List Descr)
      (hqueue : (s.port p).cyclic = d :: rest) (hready : (s.port p).tx = .ready)
      (hup : (s.port p).receiver ≠ .off) (hmode : s.mode.isHalted = false) :
      Move (h, s)
        (h, s.modPort p fun ps => { ps with cyclic := rest, tx := .sending (.cyclic d) })
  /-- The head of an acyclic queue goes into transmission (R127). -/
  | sendAcyclic (h : List BufId) (s : State) (p : Port) (b : BufId) (rest : List BufId)
      (hqueue : (s.port p).acyclic = b :: rest) (hready : (s.port p).tx = .ready)
      (hup : (s.port p).receiver ≠ .off) (hmode : s.mode.isHalted = false) :
      Move (h, s)
        (h, s.modPort p fun ps => { ps with acyclic := rest, tx := .sending (.acyclic b) })
  /-- A transmitter ends what it sends, its buffer freed (R128, R129). -/
  | endTx (h : List BufId) (s : State) (p : Port) (tx : Tx) (hidle : tx.isSending = false) :
      Move (h, s) (h, s.endTx p tx)
  /-- A port's two data queues are emptied, their buffers freed (R131). -/
  | emptyQueues (h : List BufId) (s : State) (p : Port) : Move (h, s) (h, s.emptyQueues p)
  /-- The management unit changes, and the response queue within its capacity (R120). -/
  | manage (h : List BufId) (s : State) (m : Mgmt) (rs : List Response)
      (hlength : rs.length ≤ 8 ∨ rs.length ≤ s.responses.length) :
      Move (h, s) (h, { s with mgmt := m, responses := rs })
  /-- The alert unit, the locks and the lapse list's flag change, and FROZEN is set in HALTED alone. -/
  | note (h : List BufId) (s t : State)
      (ht : t = { s with
        alertSlot := t.alertSlot
        alertNumber := t.alertNumber
        enables := t.enables
        causes := t.causes
        configLock := t.configLock
        groupLocks := t.groupLocks
        lapseOverflow := t.lapseOverflow })
      (hfrozen : t.causes.frozen = true → s.causes.frozen = true ∨ s.mode.isHalted = true) :
      Move (h, s) (h, t)
  /-- An entry changes with its key and group kept; it stays LAPSED while it is listed, and becomes
  TRACKING or OVERDUE only where its tick timer may run (R63, R110). -/
  | rewrite (h : List BufId) (s : State) (i : Byte) (e e' : Entry) (he : s.entry i = some e)
      (hport : e'.keyPort = e.keyPort) (hid : e'.streamId = e.streamId) (hgroup : e'.group = e.group)
      (hlapsed : e.state = .lapsed → i ∈ s.lapseList → e'.state = .lapsed)
      (htracked : e'.state.tracked = true →
        e.state.tracked = true ∨ s.mode = .run ∧ s.gateOf e = .opened) :
      Move (h, s) (h, s.setEntry i (some e'))
  /-- An entry that is FREE or SUSPENDED is written under a key that no other entry holds (R21, R22). -/
  | write (h : List BufId) (s : State) (i : Byte) (e : Entry)
      (hold : ∀ x, s.entry i = some x → x.state = .suspended) (hst : e.state.tracked = false)
      (hkey : ∀ j x, j ≠ i → s.entry j = some x → ¬(x.keyPort = e.keyPort ∧ x.streamId = e.streamId))
      (hown : ¬(e.keyPort = .N ∧ e.streamId = s.mgmtId)) :
      Move (h, s) (h, s.setEntry i (some e))
  /-- An entry that is SUSPENDED becomes FREE (R26). -/
  | erase (h : List BufId) (s : State) (i : Byte)
      (hold : ∀ x, s.entry i = some x → x.state = .suspended) :
      Move (h, s) (h, s.setEntry i none)
  /-- A TRACKING or OVERDUE entry becomes LAPSED and joins the lapse list (R106). -/
  | enlist (h : List BufId) (s : State) (i : Byte) (e e' : Entry) (he : s.entry i = some e)
      (hport : e'.keyPort = e.keyPort) (hid : e'.streamId = e.streamId)
      (htracked : e.state.tracked = true) (hlapsed : e'.state = .lapsed)
      (hspace : s.lapseList.length < 32) :
      Move (h, s) (h, { s.setEntry i (some e') with lapseList := s.lapseList ++ [i] })
  /-- Indices leave the lapse list, the others keeping their order (R110, R113). -/
  | unlist (h : List BufId) (s : State) (l : List Byte) (hsub : l.Sublist s.lapseList) :
      Move (h, s) (h, { s with lapseList := l })
  /-- TRACKING and OVERDUE entries go to ARMED (R30, R31). -/
  | disarm (h : List BufId) (s : State) (pick : Entry → Bool) : Move (h, s) (h, s.disarm pick)
  /-- A gate is set; one that closes has no TRACKING or OVERDUE entry in its group (R31). -/
  | gate (h : List BufId) (s : State) (g : Fin 8) (o : Gate)
      (hclosed : o = .closed → ∀ i e, s.entry i = some e → e.group = g → e.state.tracked = false) :
      Move (h, s) (h, { s with gates := s.gates.set g o })
  /-- The management stream id becomes one that no entry holds with port N (R188). -/
  | ident (h : List BufId) (s : State) (sid : StreamId)
      (hfree : ∀ i e, s.entry i = some e → ¬(e.keyPort = .N ∧ e.streamId = sid)) :
      Move (h, s) (h, { s with mgmtId := sid })
  /-- The run mode changes, once queues, entries and FROZEN are as the new mode asks (R30, R199). -/
  | mode (h : List BufId) (s : State) (m : RunMode)
      (hquiet : m.isHalted = true → s.mode.isHalted = true ∨ ∀ p,
        (s.port p).cyclic = [] ∧ (s.port p).acyclic = [] ∧ (s.port p).tx.sendsTraffic = false)
      (hrun : m = .run ∨ s.mode ≠ .run ∨ ∀ i e, s.entry i = some e → e.state.tracked = false)
      (hfrozen : m.isHalted = true ∨ s.mode.isHalted = false ∨ s.causes.frozen = false)
      (hfreeze : s.freezeLow = true → m.isHalted = true) :
      Move (h, s) (h, { s with mode := m })
  /-- The level of the freeze input is recorded; asserted, the mode is HALTED already (R200). -/
  | freezeLevel (h : List BufId) (s : State) (low : Bool)
      (hhalted : low = true → s.mode.isHalted = true) :
      Move (h, s) (h, { s with freezeLow := low })
  /-- The warm reset (R202). -/
  | warmReset (s : State) : Move ([], s) ([], s.warmReset)

/-- Moves one after the other. -/
abbrev Moves : List BufId × State → List BufId × State → Prop := Relation.ReflTransGen Move

/-- What every move keeps, every sequence of moves keeps. -/
theorem Moves.keeps {P : List BufId × State → Prop} (hP : ∀ x y, Move x y → P x → P y)
    {x y : List BufId × State} (h : Moves x y) (hx : P x) : P y := by
  induction h with
  | refl => exact hx
  | tail _ hmove ih => exact hP _ _ hmove ih

end Sys2Proof.Machine

/-! SUPPORT. What each move keeps: buffers, queues, the lapse list, keys, ports, the mode and the contents
of buffers. -/

namespace Sys2Proof.Machine

/-! ### Buffers -/

/-- Every buffer is in exactly one place, the hand counted as one (R118). -/
def Accounted (x : List BufId × State) : Prop := (x.1 ++ x.2.placedBufs).Perm allBuffers

theorem count_bufs (ps : PortState) (a : BufId) :
    ps.bufs.count a =
      ps.receiver.bufs.count a + (descrBufs ps.cyclic).count a + ps.acyclic.count a +
        ps.tx.bufs.count a := by
  simp [PortState.bufs, Nat.add_assoc]

/-- The places of a buffer, told from either port. -/
theorem count_placedBufs (s : State) (p : Port) (a : BufId) :
    s.placedBufs.count a =
      s.free.count a + (s.port p).bufs.count a + (s.port p.opp).bufs.count a +
        (s.divert.map DivertDescr.buf).count a := by
  cases p <;> simp [State.placedBufs, State.port, Port.opp] <;> omega

theorem descrBufs_append (q r : List Descr) : descrBufs (q ++ r) = descrBufs q ++ descrBufs r :=
  List.filterMap_append

@[simp] theorem descrBufs_frame (b : BufId) (q : List Descr) :
    descrBufs (.frame b :: q) = b :: descrBufs q := rfl

@[simp] theorem descrBufs_marker (m : Marker) (q : List Descr) :
    descrBufs (.marker m :: q) = descrBufs q := rfl

@[simp] theorem descrBufs_nil : descrBufs [] = [] := rfl

/-- A transmitter that sends nothing holds no buffer. -/
theorem bufs_of_not_sending {tx : Tx} (h : tx.isSending = false) : tx.bufs = [] := by
  cases tx with
  | sending => cases h
  | ready | spacing | brk => rfl

theorem sendsTraffic_of_not_sending {tx : Tx} (h : tx.isSending = false) :
    tx.sendsTraffic = false := by
  cases tx with
  | sending => cases h
  | ready | spacing | brk => rfl

/-- A receiver that fills no buffer holds none. -/
theorem bufs_of_hunt_or_skip {r : Receiver} (h : r = .hunt ∨ r = .skip) : r.bufs = [] := by
  rcases h with rfl | rfl <;> rfl

/-- A descriptor sent from the cyclic queue takes its buffer, if any, along. -/
theorem count_descrBufs_cons (d : Descr) (rest : List Descr) (a : BufId) :
    (descrBufs (d :: rest)).count a =
      (Tx.bufs (.sending (.cyclic d))).count a + (descrBufs rest).count a := by
  cases d <;> simp [Tx.bufs, Outgoing.bufs, List.count_cons, Nat.add_comm]

theorem count_bufs_enqueue (ps : PortState) (cls : StreamClass) (b a : BufId) :
    (ps.enqueue cls b).bufs.count a = ps.bufs.count a + [b].count a := by
  cases cls <;> simp [count_bufs, PortState.enqueue, descrBufs_append] <;> omega

/-- What every port holds after the warm reset (R134). -/
theorem bufs_warm (ps : PortState) (kept : Bool) : (ps.warm kept).bufs = [] := by
  obtain ⟨r, _, _, _, _, _, _, _, _, _, _, _, tx⟩ := ps
  have hr : r.warm.bufs = [] := by cases r <;> rfl
  have htx : tx.warm.bufs = [] := by
    cases tx with
    | sending o =>
      cases o with
      | cyclic | acyclic | control | response | alert => rfl
    | ready | spacing | brk => rfl
  simp [PortState.bufs, PortState.warm, hr, htx]

theorem placedBufs_warmReset (s : State) : s.warmReset.placedBufs = allBuffers := by
  have hN := (congrArg PortState.bufs (warmReset_port s .N)).trans (bufs_warm _ _)
  have hS := (congrArg PortState.bufs (warmReset_port s .S)).trans (bufs_warm _ _)
  simp only [State.port] at hN hS
  simp [State.placedBufs, hN, hS]

/-- A move of one port that leaves the port's count of a buffer as it was, the hand and the pool being
counted in. -/
theorem accounted_of_counts {x y : List BufId × State} (p : Port) (hx : Accounted x)
    (hopp : (y.2.port p.opp).bufs = (x.2.port p.opp).bufs)
    (hcount : ∀ a,
      y.1.count a + y.2.free.count a + (y.2.port p).bufs.count a +
          (y.2.divert.map DivertDescr.buf).count a =
        x.1.count a + x.2.free.count a + (x.2.port p).bufs.count a +
          (x.2.divert.map DivertDescr.buf).count a) : Accounted y := by
  refine List.Perm.trans (List.perm_iff_count.2 fun a => ?_) hx
  have h := hcount a
  rw [List.count_append, List.count_append, count_placedBufs _ p, count_placedBufs _ p, hopp]
  omega

/-- A move that touches no place of a buffer. -/
theorem accounted_of_same {h : List BufId} {s t : State} (hx : Accounted (h, s))
    (hfree : t.free = s.free) (hN : t.portN = s.portN) (hS : t.portS = s.portS)
    (hdivert : t.divert = s.divert) : Accounted (h, t) := by
  unfold Accounted State.placedBufs
  rw [hfree, hN, hS, hdivert]
  exact hx

theorem Move.keeps_accounted (x y : List BufId × State) (hmove : Move x y) (hx : Accounted x) :
    Accounted y := by
  cases hmove with
  | port h s p f hframes =>
    obtain ⟨hrecv, hcyc, hacyc, htx, _⟩ := hframes
    exact accounted_of_counts p hx (by simp) fun a => by simp [count_bufs, *]
  | claim h s p b rest hfree hrecv =>
    have hold := bufs_of_hunt_or_skip hrecv
    have hnew : (Receiver.fill b).bufs = [b] := rfl
    refine accounted_of_counts p hx (by simp) fun a => ?_
    simp [count_bufs, PortState.setReceiver, hold, hnew, hfree, List.count_cons]
    omega
  | store h s p b bytes => exact accounted_of_same hx rfl rfl rfl rfl
  | lift h s p b r hrecv hnext =>
    have hnew := bufs_of_hunt_or_skip hnext
    have hold : (s.port p).receiver.bufs = [b] := by rw [hrecv]; rfl
    refine accounted_of_counts p hx (by simp) fun a => ?_
    simp [count_bufs, PortState.setReceiver, hold, hnew, List.count_cons]
    omega
  | release h s b =>
    refine accounted_of_counts .N hx rfl fun a => ?_
    simp [State.release, List.count_cons, State.port]
    omega
  | enqueue h s p cls b =>
    refine accounted_of_counts p hx (by simp) fun a => ?_
    simp [count_bufs_enqueue, List.count_cons]
    omega
  | mark h s p m =>
    exact accounted_of_counts p hx (by simp) fun a => by simp [count_bufs, descrBufs_append]
  | divert h s d =>
    refine accounted_of_counts .N hx rfl fun a => ?_
    simp [State.port, List.count_cons]
    omega
  | undivert h s d rest hqueue =>
    refine accounted_of_counts .N hx rfl fun a => ?_
    simp [State.port, hqueue, List.count_cons]
    omega
  | sendCyclic h s p d rest hqueue hready =>
    refine accounted_of_counts p hx (by simp) fun a => ?_
    simp [count_bufs, hqueue, hready, count_descrBufs_cons, Tx.bufs]
    omega
  | sendAcyclic h s p b rest hqueue hready =>
    refine accounted_of_counts p hx (by simp) fun a => ?_
    simp [count_bufs, hqueue, hready, Tx.bufs, Outgoing.bufs, List.count_cons]
    omega
  | endTx h s p tx hidle =>
    have hnew := bufs_of_not_sending hidle
    refine accounted_of_counts p hx (by simp) fun a => ?_
    simp [count_bufs, hnew]
    omega
  | emptyQueues h s p =>
    refine accounted_of_counts p hx (by simp) fun a => ?_
    simp [count_bufs]
    omega
  | warmReset s => exact List.Perm.of_eq (placedBufs_warmReset s)
  | note h s t ht =>
    rw [ht]
    exact accounted_of_same hx rfl rfl rfl rfl
  | manage | rewrite | write | erase | enlist | unlist | disarm | gate | ident | mode
  | freezeLevel => exact accounted_of_same hx rfl rfl rfl rfl

/-! ### Queues -/

/-- What holds of a port and of its opposite holds of every port. -/
theorem forall_port {P : Port → Prop} (p : Port) (hself : P p) (hopp : P p.opp) : ∀ q, P q := by
  intro q
  cases p <;> cases q
  · exact hself
  · exact hopp
  · exact hopp
  · exact hself

/-- A port's two data queues within their capacities (R120). -/
def PortState.InCapacity (ps : PortState) : Prop := ps.cyclic.length ≤ 32 ∧ ps.acyclic.length ≤ 64

theorem queueLaw_modPort {s : State} (hs : s.QueueLaw) (p : Port) {f : PortState → PortState}
    (hf : (s.port p).InCapacity → (f (s.port p)).InCapacity) : (s.modPort p f).QueueLaw := by
  obtain ⟨hports, hdivert, hresponses⟩ := hs
  refine ⟨forall_port p ?_ ?_, by simpa using hdivert, by simpa using hresponses⟩
  · rw [modPort_port_self]
    exact hf (hports p)
  · rw [modPort_port_opp]
    exact hports p.opp

theorem queueLaw_of_same {s t : State} (hs : s.QueueLaw) (hN : t.portN = s.portN)
    (hS : t.portS = s.portS) (hdivert : t.divert.length ≤ 16) (hresponses : t.responses.length ≤ 8) :
    t.QueueLaw := by
  refine ⟨fun p => ?_, hdivert, hresponses⟩
  rw [port_congr hN hS p]
  exact hs.1 p

/-- Space at a placement (R56). -/
theorem enqueue_inCapacity {ps : PortState} {cls : StreamClass} (b : BufId)
    (hplace : ps.placement cls = .queued) (h : ps.InCapacity) : (ps.enqueue cls b).InCapacity := by
  obtain ⟨hcyc, hacyc⟩ := h
  cases cls with
  | cyclic =>
    rw [placement_cyclic] at hplace
    split_ifs at hplace with _ hspace
    exact ⟨by simpa [PortState.enqueue] using hspace, hacyc⟩
  | acyclic =>
    rw [placement_acyclic] at hplace
    split_ifs at hplace with _ hspace
    exact ⟨hcyc, by simpa [PortState.enqueue] using hspace⟩

theorem Move.keeps_queueLaw {h h' : List BufId} {s t : State} (hmove : Move (h, s) (h', t))
    (hx : s.QueueLaw) : t.QueueLaw := by
  have hdivert := hx.2.1
  have hresponses := hx.2.2
  cases hmove with
  | port _ _ p f hframes =>
    obtain ⟨_, hcyc, hacyc, _⟩ := hframes
    exact queueLaw_modPort hx p fun hp => ⟨by rw [hcyc]; exact hp.1, by rw [hacyc]; exact hp.2⟩
  | claim _ _ p b rest =>
    exact queueLaw_modPort (s := { s with free := rest }.store b [])
      (queueLaw_of_same hx rfl rfl hdivert hresponses) p
      (f := fun ps => ps.setReceiver (.fill b)) fun hp => hp
  | lift _ _ p b r => exact queueLaw_modPort hx p id
  | enqueue _ _ p cls b hplace => exact queueLaw_modPort hx p (enqueue_inCapacity b hplace)
  | mark _ _ p m hfits =>
    refine queueLaw_modPort hx p fun hp => ⟨?_, hp.2⟩
    simpa using ((takesMarker_iff _).1 hfits).2
  | divert _ _ d hspace => exact queueLaw_of_same hx rfl rfl (by simpa using hspace) hresponses
  | undivert _ _ d rest hqueue =>
    refine queueLaw_of_same hx rfl rfl ?_ hresponses
    simp only [hqueue, List.length_cons] at hdivert
    exact Nat.le_of_succ_le hdivert
  | sendCyclic _ _ p d rest hqueue =>
    refine queueLaw_modPort hx p fun hp => ⟨?_, hp.2⟩
    have := hp.1
    simp only [hqueue, List.length_cons] at this
    exact Nat.le_of_succ_le this
  | sendAcyclic _ _ p b rest hqueue =>
    refine queueLaw_modPort hx p fun hp => ⟨hp.1, ?_⟩
    have := hp.2
    simp only [hqueue, List.length_cons] at this
    exact Nat.le_of_succ_le this
  | endTx _ _ p tx =>
    exact queueLaw_modPort (s := s.releaseAll (s.port p).tx.bufs)
      (queueLaw_of_same hx rfl rfl hdivert hresponses) p
      (f := fun ps => { ps with tx := tx }) fun hp => hp
  | emptyQueues _ _ p =>
    exact queueLaw_modPort (s := s.releaseAll _)
      (queueLaw_of_same hx rfl rfl hdivert hresponses) p fun _ => ⟨Nat.zero_le _, Nat.zero_le _⟩
  | manage _ _ m rs hlength =>
    refine queueLaw_of_same hx rfl rfl hdivert ?_
    rcases hlength with hlength | hlength
    · exact hlength
    · exact hlength.trans hresponses
  | note _ _ t ht =>
    rw [ht]
    exact queueLaw_of_same hx rfl rfl hdivert hresponses
  | warmReset _ =>
    refine ⟨fun p => ?_, by simp, by simpa using hresponses⟩
    rw [warmReset_port]
    exact ⟨Nat.zero_le _, Nat.zero_le _⟩
  | store | release | rewrite | write | erase | enlist | unlist | disarm | gate | ident | mode
  | freezeLevel => exact queueLaw_of_same hx rfl rfl hdivert hresponses

/-! ### The lapse list -/

theorem lapseListLaw_of_same {s t : State} (hs : s.LapseListLaw) (hlist : t.lapseList = s.lapseList)
    (htable : t.table = s.table) : t.LapseListLaw := by
  unfold State.LapseListLaw State.entry
  rw [hlist, htable]
  exact hs

/-- A write keeps the law when no listed entry leaves LAPSED by it. -/
theorem lapseListLaw_setEntry {s : State} (hs : s.LapseListLaw) (i : Byte) {o : Option Entry}
    (ho : i ∈ s.lapseList → ∃ e, o = some e ∧ e.state = .lapsed) :
    (s.setEntry i o).LapseListLaw := by
  obtain ⟨hlength, hnodup, hlapsed⟩ := hs
  refine ⟨hlength, hnodup, fun j hj => ?_⟩
  rw [entry_setEntry]
  split
  next heq => exact ho (heq ▸ hj)
  next => exact hlapsed j hj

/-- An entry that is not LAPSED is not listed. -/
theorem not_mem_lapseList {s : State} (hs : s.LapseListLaw) {i : Byte}
    (h : ∀ e, s.entry i = some e → e.state ≠ .lapsed) : i ∉ s.lapseList := by
  intro hi
  obtain ⟨e, he, hlapsed⟩ := hs.2.2 i hi
  exact h e he hlapsed

theorem Move.keeps_lapseListLaw {h h' : List BufId} {s t : State} (hmove : Move (h, s) (h', t))
    (hx : s.LapseListLaw) : t.LapseListLaw := by
  cases hmove with
  | note _ _ t ht =>
    rw [ht]
    exact lapseListLaw_of_same hx rfl rfl
  | rewrite _ _ i e e' he _ _ _ hlapsed =>
    refine lapseListLaw_setEntry hx i fun hi => ⟨e', rfl, ?_⟩
    obtain ⟨x, hxe, hx⟩ := hx.2.2 i hi
    obtain rfl := Option.some.inj (he.symm.trans hxe)
    exact hlapsed hx hi
  | write _ _ i e hold =>
    refine lapseListLaw_setEntry hx i fun hi => absurd hi (not_mem_lapseList hx fun x hx => ?_)
    rw [hold x hx]
    nofun
  | erase _ _ i hold =>
    refine lapseListLaw_setEntry hx i fun hi => absurd hi (not_mem_lapseList hx fun x hx => ?_)
    rw [hold x hx]
    nofun
  | enlist _ _ i e e' he _ _ htracked hlapsed hspace =>
    have hnew : i ∉ s.lapseList := not_mem_lapseList hx fun x hx hst => by
      obtain rfl := Option.some.inj (he.symm.trans hx)
      rw [hst] at htracked
      cases htracked
    obtain ⟨-, hnodup, hall⟩ := lapseListLaw_setEntry hx i (o := some e') fun hi => absurd hi hnew
    refine ⟨by simpa using hspace, List.nodup_append.2 ⟨hnodup, by simp, by aesop⟩, fun j hj => ?_⟩
    rcases List.mem_append.1 hj with hj | hj
    · exact hall j hj
    · obtain rfl := List.mem_singleton.1 hj
      exact ⟨e', entry_setEntry_self s j _, hlapsed⟩
  | unlist _ _ l hsub =>
    obtain ⟨hlength, hnodup, hall⟩ := hx
    exact ⟨hsub.length_le.trans hlength, hnodup.sublist hsub, fun i hi => hall i (hsub.subset hi)⟩
  | disarm _ _ pick =>
    obtain ⟨hlength, hnodup, hall⟩ := hx
    refine ⟨hlength, hnodup, fun i hi => ?_⟩
    obtain ⟨e, he, hlapsed⟩ := hall i hi
    rw [entry_disarm, he]
    refine ⟨_, rfl, ?_⟩
    cases hpick : pick e <;> simp [hpick, Entry.disarm, hlapsed, EntryState.tracked]
  | warmReset _ => exact ⟨by simp, by simp, by simp⟩
  | port | claim | lift | enqueue | mark | sendCyclic | sendAcyclic | endTx | emptyQueues =>
    exact lapseListLaw_of_same hx (by simp) (by simp)
  | store | release | divert | undivert | manage | gate | ident | mode | freezeLevel =>
    exact lapseListLaw_of_same hx rfl rfl

end Sys2Proof.Machine

/-! SUPPORT. What each move keeps of the keys, the ports and the mode. -/

namespace Sys2Proof.Machine

/-! ### Keys -/

theorem keyLaw_of_same {s t : State} (hs : s.KeyLaw) (htable : t.table = s.table)
    (hid : t.mgmtId = s.mgmtId) : t.KeyLaw := by
  unfold State.KeyLaw State.entry
  rw [htable, hid]
  exact hs

/-- The key law of a table each of whose entries stands where an entry of the same key stood. -/
theorem keyLaw_of_keys {s t : State} (hs : s.KeyLaw) (hid : t.mgmtId = s.mgmtId)
    (hkeys : ∀ i e, t.entry i = some e →
      ∃ x, s.entry i = some x ∧ x.keyPort = e.keyPort ∧ x.streamId = e.streamId) : t.KeyLaw := by
  obtain ⟨hapart, hown⟩ := hs
  refine ⟨fun i j e f he hf hport hsid => ?_, fun i e he hkey => ?_⟩
  · obtain ⟨x, hx, hxp, hxs⟩ := hkeys i e he
    obtain ⟨y, hy, hyp, hys⟩ := hkeys j f hf
    exact hapart i j x y hx hy (by rw [hxp, hyp, hport]) (by rw [hxs, hys, hsid])
  · obtain ⟨x, hx, hxp, hxs⟩ := hkeys i e he
    rw [← hxp, ← hxs, hid] at hkey
    exact hown i x hx hkey

/-- An entry rewritten under its key. -/
theorem keyLaw_rewrite {s : State} (hs : s.KeyLaw) {i : Byte} {e e' : Entry}
    (he : s.entry i = some e) (hport : e'.keyPort = e.keyPort) (hsid : e'.streamId = e.streamId) :
    (s.setEntry i (some e')).KeyLaw := by
  refine keyLaw_of_keys hs rfl fun j x hx => ?_
  rw [entry_setEntry] at hx
  split at hx
  next heq =>
    obtain rfl := Option.some.inj hx
    exact ⟨e, heq ▸ he, hport.symm, hsid.symm⟩
  next => exact ⟨x, hx, rfl, rfl⟩

theorem keyLaw_write {s : State} (hs : s.KeyLaw) {i : Byte} {e : Entry}
    (hkey : ∀ j x, j ≠ i → s.entry j = some x → ¬(x.keyPort = e.keyPort ∧ x.streamId = e.streamId))
    (hown : ¬(e.keyPort = .N ∧ e.streamId = s.mgmtId)) : (s.setEntry i (some e)).KeyLaw := by
  obtain ⟨hapart, hnone⟩ := hs
  refine ⟨fun j k x y hx hy hport hsid => ?_, fun j x hx => ?_⟩
  · rw [entry_setEntry] at hx hy
    split at hx <;> split at hy
    next hj hk => rw [hj, hk]
    next hj hk =>
      obtain rfl := Option.some.inj hx
      exact absurd ⟨hport.symm, hsid.symm⟩ (hkey k y hk hy)
    next hj hk =>
      obtain rfl := Option.some.inj hy
      exact absurd ⟨hport, hsid⟩ (hkey j x hj hx)
    next => exact hapart j k x y hx hy hport hsid
  · rw [entry_setEntry] at hx
    split at hx
    next => exact Option.some.inj hx ▸ hown
    next => exact hnone j x hx

/-- An entry that a warm reset keeps has its key still (R39). -/
theorem warmKept_key (e : Entry) :
    e.warmKept.keyPort = e.keyPort ∧ e.warmKept.streamId = e.streamId ∧
      e.warmKept.group = e.group := by
  unfold Entry.warmKept
  split <;> exact ⟨rfl, rfl, rfl⟩

/-- What stands after a warm reset stood before it, and was kept (R39). -/
theorem entry_of_warmReset {s : State} {i : Byte} {e : Entry} (h : s.warmReset.entry i = some e) :
    ∃ x, s.entry i = some x ∧ e = x.warmKept := by
  rw [entry_warmReset] at h
  cases hx : s.entry i with
  | none =>
    rw [hx] at h
    cases h
  | some x =>
    rw [hx, warmEntry] at h
    split at h
    · exact ⟨x, rfl, (Option.some.inj h).symm⟩
    · cases h

theorem Move.keeps_keyLaw {h h' : List BufId} {s t : State} (hmove : Move (h, s) (h', t))
    (hx : s.KeyLaw) : t.KeyLaw := by
  cases hmove with
  | note _ _ t ht =>
    rw [ht]
    exact keyLaw_of_same hx rfl rfl
  | rewrite _ _ i e e' he hport hid => exact keyLaw_rewrite hx he hport hid
  | write _ _ i e _ _ hkey hown => exact keyLaw_write hx hkey hown
  | erase _ _ i =>
    refine keyLaw_of_keys hx rfl fun j e he => ?_
    rw [entry_setEntry] at he
    split at he
    · cases he
    · exact ⟨e, he, rfl, rfl⟩
  | enlist _ _ i e e' he hport hid => exact keyLaw_of_same (keyLaw_rewrite hx he hport hid) rfl rfl
  | disarm _ _ pick =>
    refine keyLaw_of_keys hx rfl fun j e he => ?_
    rw [entry_disarm] at he
    obtain ⟨x, hxe, rfl⟩ := Option.map_eq_some_iff.1 he
    refine ⟨x, hxe, ?_⟩
    split
    · unfold Entry.disarm
      split <;> exact ⟨rfl, rfl⟩
    · exact ⟨rfl, rfl⟩
  | ident _ _ sid hfree => exact ⟨hx.1, hfree⟩
  | warmReset _ =>
    refine keyLaw_of_keys hx (by simp) fun j e he => ?_
    obtain ⟨x, hxe, rfl⟩ := entry_of_warmReset he
    obtain ⟨hport, hsid, _⟩ := warmKept_key x
    exact ⟨x, hxe, hport.symm, hsid.symm⟩
  | port | claim | lift | enqueue | mark | sendCyclic | sendAcyclic | endTx | emptyQueues =>
    exact keyLaw_of_same hx (by simp) (by simp)
  | store | release | divert | undivert | manage | unlist | gate | mode | freezeLevel =>
    exact keyLaw_of_same hx rfl rfl

/-! ### Ports -/

theorem portLaw_modPort {s : State} (hs : s.PortLaw) (p : Port) {f : PortState → PortState}
    (hf : (s.port p).Lawful → (f (s.port p)).Lawful) : (s.modPort p f).PortLaw := by
  refine forall_port p ?_ ?_
  · rw [modPort_port_self]
    exact hf (hs p)
  · rw [modPort_port_opp]
    exact hs p.opp

theorem portLaw_of_same {s t : State} (hs : s.PortLaw) (hN : t.portN = s.portN)
    (hS : t.portS = s.portS) : t.PortLaw := fun p => by
  rw [port_congr hN hS p]
  exact hs p

/-- The flow controller is not concerned in a change of the receiver, the queues or the transmitter, and at
an UP port nothing else of the law is. -/
theorem lawful_of_up {a b : PortState} (ha : a.Lawful) (hup : b.receiver ≠ .off)
    (hpause : b.pauseState = a.pauseState) (hresend : b.resend = a.resend)
    (hslot : b.controlSlot = a.controlSlot) (hheld : b.held = a.held)
    (htimer : b.holdTimer = a.holdTimer) (hset : b.settings = a.settings) : b.Lawful := by
  refine ⟨?_, fun hoff => absurd hoff hup⟩
  unfold PortState.FlowSound
  rw [hpause, hresend, hslot, hheld, htimer, hset]
  exact ha.1

theorem lawful_endTx {ps : PortState} {tx : Tx} (h : ps.Lawful) (hidle : tx.isSending = false) :
    ({ ps with tx := tx } : PortState).Lawful := by
  refine ⟨h.1, fun hoff => ?_⟩
  obtain ⟨hcyc, hacyc, hslot, hpause, hheld, _⟩ := h.2 hoff
  exact ⟨hcyc, hacyc, hslot, hpause, hheld, hidle⟩

theorem lawful_emptyQueues {ps : PortState} (h : ps.Lawful) :
    ({ ps with cyclic := [], acyclic := [] } : PortState).Lawful := by
  refine ⟨h.1, fun hoff => ?_⟩
  obtain ⟨_, _, hslot, hpause, hheld, htx⟩ := h.2 hoff
  exact ⟨rfl, rfl, hslot, hpause, hheld, htx⟩

theorem defaults_inRange : PortSettings.defaults.InRange := by
  unfold PortSettings.InRange
  decide

/-- A flow controller at rest is sound (R147). -/
theorem restFlow_flowSound {ps : PortState} (h : ps.settings.InRange) : ps.restFlow.FlowSound :=
  ⟨fun _ => rfl, Nat.zero_le _, nofun, ⟨nofun, fun h => absurd rfl h⟩, h⟩

/-- A receiver is OFF after a warm reset only if it was before (R15). -/
theorem off_of_warm {r : Receiver} (h : r.warm = .off) : r = .off := by
  cases r with
  | off => rfl
  | hunt | fill | skip => cases h

theorem lawful_warm {ps : PortState} (kept : Bool) (h : ps.Lawful) : (ps.warm kept).Lawful := by
  have hset : (if kept then ps.settings else PortSettings.defaults).InRange := by
    cases kept
    · exact defaults_inRange
    · exact h.1.2.2.2.2
  refine ⟨⟨fun _ => rfl, Nat.zero_le _, nofun, ⟨nofun, fun h => absurd rfl h⟩, hset⟩, fun hoff => ?_⟩
  obtain ⟨_, _, _, _, _, htx⟩ := h.2 (off_of_warm hoff)
  refine ⟨rfl, rfl, rfl, rfl, rfl, ?_⟩
  simpa [PortState.warm, Tx.warm, sendsTraffic_of_not_sending htx] using htx

theorem Move.keeps_portLaw {h h' : List BufId} {s t : State} (hmove : Move (h, s) (h', t))
    (hx : s.PortLaw) : t.PortLaw := by
  cases hmove with
  | port _ _ p f _ hlaw => exact portLaw_modPort hx p hlaw
  | claim _ _ p b rest =>
    refine portLaw_modPort ?_ p fun hp => ?_
    · exact portLaw_of_same hx rfl rfl
    · exact lawful_of_up hp nofun rfl rfl rfl rfl rfl rfl
  | lift _ _ p b r _ hnext =>
    refine portLaw_modPort hx p fun hp => lawful_of_up hp ?_ rfl rfl rfl rfl rfl rfl
    rcases hnext with rfl | rfl <;> nofun
  | enqueue _ _ p cls b hplace =>
    have hup := receiver_ne_off_of_queued hplace
    refine portLaw_modPort hx p fun hp => ?_
    cases cls <;> exact lawful_of_up hp hup rfl rfl rfl rfl rfl rfl
  | mark _ _ p m hfits =>
    have hup := ((takesMarker_iff _).1 hfits).1
    exact portLaw_modPort hx p fun hp => lawful_of_up hp hup rfl rfl rfl rfl rfl rfl
  | sendCyclic _ _ p d rest _ _ hup =>
    exact portLaw_modPort hx p fun hp => lawful_of_up hp hup rfl rfl rfl rfl rfl rfl
  | sendAcyclic _ _ p b rest _ _ hup =>
    exact portLaw_modPort hx p fun hp => lawful_of_up hp hup rfl rfl rfl rfl rfl rfl
  | endTx _ _ p tx hidle =>
    exact portLaw_modPort (s := s.releaseAll _) (portLaw_of_same hx rfl rfl) p
      fun hp => lawful_endTx hp hidle
  | emptyQueues _ _ p =>
    exact portLaw_modPort (s := s.releaseAll _) (portLaw_of_same hx rfl rfl) p
      fun hp => lawful_emptyQueues hp
  | note _ _ t ht =>
    rw [ht]
    exact portLaw_of_same hx rfl rfl
  | warmReset _ =>
    intro p
    rw [warmReset_port]
    exact lawful_warm s.configLock (hx p)
  | store | release | divert | undivert | manage | rewrite | write | erase | enlist | unlist | disarm
  | gate | ident | mode | freezeLevel => exact portLaw_of_same hx rfl rfl

/-! ### The mode -/

/-- The mode law of a running part. -/
structure State.RunningModeLaw (s : State) : Prop where
  quiet : s.HaltedQuiet
  tracked : s.TrackedCount
  frozen : s.causes.frozen = true → s.mode.isHalted = true
  freeze : s.freezeLow = true → s.mode.isHalted = true

/-- A port with no traffic on its egress side (R133). -/
def PortState.Quiet (ps : PortState) : Prop :=
  ps.cyclic = [] ∧ ps.acyclic = [] ∧ ps.tx.sendsTraffic = false

theorem runningModeLaw_of_same {s t : State} (hs : s.RunningModeLaw) (hmode : t.mode = s.mode)
    (hN : t.portN = s.portN) (hS : t.portS = s.portS) (htable : t.table = s.table)
    (hgates : t.gates = s.gates) (hfrozen : t.causes.frozen = s.causes.frozen)
    (hfreeze : t.freezeLow = s.freezeLow) : t.RunningModeLaw := by
  refine ⟨fun h p => ?_, fun i e he hst => ?_, ?_, ?_⟩
  · rw [port_congr hN hS p]
    exact hs.quiet (hmode ▸ h) p
  · have hold : s.entry i = some e := by
      rw [← he, State.entry, State.entry, htable]
    rw [hmode, State.gateOf, hgates]
    exact hs.tracked i e hold hst
  · rw [hfrozen, hmode]
    exact hs.frozen
  · rw [hfreeze, hmode]
    exact hs.freeze

/-- A change of one port that is quiet in HALTED keeps the mode law. -/
theorem runningModeLaw_modPort {s : State} (hs : s.RunningModeLaw) (p : Port)
    {f : PortState → PortState}
    (hf : s.mode.isHalted = true → (s.port p).Quiet → (f (s.port p)).Quiet) :
    (s.modPort p f).RunningModeLaw := by
  refine ⟨fun h => ?_, fun i e he hst => ?_, by simpa using hs.frozen, by simpa using hs.freeze⟩
  · rw [modPort_mode] at h
    refine forall_port p ?_ ?_
    · rw [modPort_port_self]
      exact hf h (hs.quiet h p)
    · rw [modPort_port_opp]
      exact hs.quiet h p.opp
  · rw [modPort_entry] at he
    rw [modPort_mode, modPort_gateOf]
    exact hs.tracked i e he hst

/-- Outside HALTED a port may take or send traffic. -/
theorem runningModeLaw_modPort_of_not_halted {s : State} (hs : s.RunningModeLaw) (p : Port)
    {f : PortState → PortState} (hmode : s.mode.isHalted = false) : (s.modPort p f).RunningModeLaw :=
  runningModeLaw_modPort hs p fun h => absurd h (by simp [hmode])

/-- A change of the table keeps the mode law when each entry it leaves TRACKING or OVERDUE may count. -/
theorem runningModeLaw_of_table {s t : State} (hs : s.RunningModeLaw)
    (ht : t = { s with table := t.table, lapseList := t.lapseList })
    (htracked : ∀ i e, t.entry i = some e → e.state.tracked = true →
      s.mode = .run ∧ s.gateOf e = .opened) : t.RunningModeLaw := by
  refine ⟨?_, fun i e he hst => ?_, ?_, ?_⟩
  · rw [ht]
    exact hs.quiet
  · have h := htracked i e he hst
    rw [ht]
    exact h
  · rw [ht]
    exact hs.frozen
  · rw [ht]
    exact hs.freeze

/-- The same for one entry. -/
theorem tracked_setEntry {s : State} (hs : s.TrackedCount) (i : Byte) {o : Option Entry}
    (ho : ∀ e, o = some e → e.state.tracked = true → s.mode = .run ∧ s.gateOf e = .opened) :
    ∀ j e, (s.setEntry i o).entry j = some e → e.state.tracked = true →
      s.mode = .run ∧ s.gateOf e = .opened := by
  intro j e he hst
  rw [entry_setEntry] at he
  split at he
  next => exact ho e he hst
  next => exact hs j e he hst

/-- Entries of one group have one gate. -/
theorem gateOf_of_group (s : State) {e e' : Entry} (h : e'.group = e.group) :
    s.gateOf e' = s.gateOf e := by
  simp [State.gateOf, h]

/-- An entry that leaves TRACKING or OVERDUE is in neither (R30). -/
theorem disarm_not_tracked (e : Entry) : e.disarm.state.tracked = false := by
  unfold Entry.disarm
  split
  · rfl
  · simp_all

theorem warmKept_not_tracked (e : Entry) : e.warmKept.state.tracked = false := by
  unfold Entry.warmKept
  cases h : e.state <;> simp [EntryState.active, EntryState.tracked, Entry.arm, h]

theorem sendsTraffic_warm (tx : Tx) : tx.warm.sendsTraffic = false := by
  unfold Tx.warm
  split
  · rfl
  · simp_all

theorem Move.keeps_runningModeLaw {h h' : List BufId} {s t : State} (hmove : Move (h, s) (h', t))
    (hx : s.RunningModeLaw) : t.RunningModeLaw := by
  cases hmove with
  | port _ _ p f hframes =>
    obtain ⟨_, hcyc, hacyc, _, htraffic⟩ := hframes
    refine runningModeLaw_modPort hx p fun _ hq => ⟨hcyc.trans hq.1, hacyc.trans hq.2.1, ?_⟩
    exact Bool.eq_false_iff.2 fun h => Bool.eq_false_iff.1 hq.2.2 (htraffic h)
  | claim _ _ p b rest =>
    refine runningModeLaw_modPort ?_ p fun _ hq => ?_
    · exact runningModeLaw_of_same hx rfl rfl rfl rfl rfl rfl rfl
    · exact hq
  | lift _ _ p b r => exact runningModeLaw_modPort hx p fun _ hq => hq
  | enqueue _ _ p cls b _ hmode => exact runningModeLaw_modPort_of_not_halted hx p hmode
  | mark _ _ p m _ hmode => exact runningModeLaw_modPort_of_not_halted hx p hmode
  | sendCyclic _ _ p d rest _ _ _ hmode => exact runningModeLaw_modPort_of_not_halted hx p hmode
  | sendAcyclic _ _ p b rest _ _ _ hmode => exact runningModeLaw_modPort_of_not_halted hx p hmode
  | endTx _ _ p tx hidle =>
    exact runningModeLaw_modPort (s := s.releaseAll _)
      (runningModeLaw_of_same hx rfl rfl rfl rfl rfl rfl rfl) p
      fun _ hq => ⟨hq.1, hq.2.1, sendsTraffic_of_not_sending hidle⟩
  | emptyQueues _ _ p =>
    exact runningModeLaw_modPort (s := s.releaseAll _)
      (runningModeLaw_of_same hx rfl rfl rfl rfl rfl rfl rfl) p fun _ hq => ⟨rfl, rfl, hq.2.2⟩
  | note _ _ t ht hfrozen =>
    have hcauses : t.causes.frozen = true → s.mode.isHalted = true := fun hf =>
      (hfrozen hf).elim hx.frozen id
    rw [ht]
    exact ⟨hx.quiet, hx.tracked, hcauses, hx.freeze⟩
  | rewrite _ _ i e e' he hport hid hgroup _ htracked =>
    refine runningModeLaw_of_table hx rfl (tracked_setEntry hx.tracked i fun x hxe hst => ?_)
    obtain rfl := Option.some.inj hxe
    rw [gateOf_of_group s hgroup]
    exact (htracked hst).elim (hx.tracked i e he) id
  | write _ _ i e _ hst =>
    refine runningModeLaw_of_table hx rfl (tracked_setEntry hx.tracked i fun x hxe hxt => ?_)
    obtain rfl := Option.some.inj hxe
    rw [hst] at hxt
    cases hxt
  | erase _ _ i =>
    exact runningModeLaw_of_table hx rfl (tracked_setEntry hx.tracked i fun _ heq => nomatch heq)
  | enlist _ _ i e e' _ _ _ _ hlapsed =>
    refine runningModeLaw_of_table hx rfl (tracked_setEntry hx.tracked i fun x hxe hxt => ?_)
    obtain rfl := Option.some.inj hxe
    rw [hlapsed] at hxt
    cases hxt
  | disarm _ _ pick =>
    refine runningModeLaw_of_table hx rfl fun i e he hst => ?_
    rw [entry_disarm] at he
    obtain ⟨x, hxe, rfl⟩ := Option.map_eq_some_iff.1 he
    cases hpick : pick x
    · rw [hpick] at hst
      exact hx.tracked i x hxe hst
    · rw [hpick] at hst
      simp [disarm_not_tracked] at hst
  | gate _ _ g o hclosed =>
    refine ⟨hx.quiet, fun i e he hst => ?_, hx.frozen, hx.freeze⟩
    obtain ⟨hrun, hopen⟩ := hx.tracked i e he hst
    refine ⟨hrun, ?_⟩
    by_cases hg : e.group = g
    · cases o with
      | opened => simp [State.gateOf, hg]
      | closed => simp [hclosed rfl i e he hg] at hst
    · have hval : g.val ≠ e.group.val := fun h => hg (Fin.ext h.symm)
      simpa [State.gateOf, Vector.getElem_set, hval] using hopen
  | mode _ _ m hquiet hrun hfrozen hfreeze =>
    refine ⟨fun h p => ?_, fun i e he hst => ?_, fun hf => ?_, hfreeze⟩
    · exact (hquiet h).elim (fun hold => hx.quiet hold p) fun hq => hq p
    · obtain ⟨hold, hopen⟩ := hx.tracked i e he hst
      refine ⟨?_, hopen⟩
      rcases hrun with hm | hne | hnone
      · exact hm
      · exact absurd hold hne
      · simp [hnone i e he] at hst
    · rcases hfrozen with hm | hold | hno
      · exact hm
      · exact absurd (hx.frozen hf) (by simp [hold])
      · exact absurd hf (by simp [hno])
  | freezeLevel _ _ low hhalted =>
    exact ⟨hx.quiet, hx.tracked, hx.frozen, hhalted⟩
  | warmReset _ =>
    refine ⟨fun _ p => ?_, fun i e he hst => ?_, fun hf => ?_, fun hf => ?_⟩
    · rw [warmReset_port]
      exact ⟨rfl, rfl, sendsTraffic_warm _⟩
    · obtain ⟨x, _, rfl⟩ := entry_of_warmReset he
      simp [warmKept_not_tracked] at hst
    · rw [warmReset_causes] at hf
      have hlow : s.freezeLow = true := hf
      simp [hlow, RunMode.isHalted]
    · rw [warmReset_freezeLow] at hf
      simp [hf, RunMode.isHalted]
  | store | release | divert | undivert | manage | unlist | ident =>
    exact runningModeLaw_of_same hx rfl rfl rfl rfl rfl rfl rfl

end Sys2Proof.Machine

/-! SUPPORT. What each move keeps of the contents of buffers. -/

namespace Sys2Proof.Machine

/-! ### Contents -/

theorem mem_frameBufs (s : State) (p : Port) (b : BufId) :
    b ∈ s.frameBufs ↔
      b ∈ (s.port p).frameBufs ∨ b ∈ (s.port p.opp).frameBufs ∨ ∃ d ∈ s.divert, d.buf = b := by
  cases p <;> simp [State.frameBufs, State.port, Port.opp, or_left_comm]

theorem mem_frameBufs_port (ps : PortState) (b : BufId) :
    b ∈ ps.frameBufs ↔ b ∈ descrBufs ps.cyclic ∨ b ∈ ps.acyclic ∨ b ∈ ps.tx.bufs := by
  simp [PortState.frameBufs]

/-- A buffer in the pool or in reception is not past its reception: it is in one place (R118). -/
theorem not_mem_frameBufs {h : List BufId} {s : State} (hx : Accounted (h, s)) (p : Port) {b : BufId}
    (hb : b ∈ s.free ∨ b ∈ (s.port p).receiver.bufs) : b ∉ s.frameBufs := by
  intro hmem
  have hone : (h ++ s.placedBufs).count b ≤ 1 :=
    List.nodup_iff_count_le_one.1 (hx.nodup_iff.2 (List.nodup_finRange 160)) b
  rw [List.count_append, count_placedBufs s p, count_bufs, count_bufs] at hone
  have hplace : 1 ≤ s.free.count b + (s.port p).receiver.bufs.count b := by
    rcases hb with hb | hb
    · have := List.count_pos_iff.2 hb
      omega
    · have := List.count_pos_iff.2 hb
      omega
  rcases (mem_frameBufs s p b).1 hmem with hm | hm | hm
  · rcases (mem_frameBufs_port _ b).1 hm with hm | hm | hm
    all_goals
      have := List.count_pos_iff.2 hm
      omega
  · rcases (mem_frameBufs_port _ b).1 hm with hm | hm | hm
    all_goals
      have := List.count_pos_iff.2 hm
      omega
  · have := List.count_pos_iff.2 (List.mem_map.2 hm)
    omega

/-- With the contents as they were, only a buffer new to the queues must be shown intact. -/
theorem contentLaw_of_frames {s t : State} (hs : s.ContentLaw) (hcontents : t.contents = s.contents)
    (hframes : ∀ b ∈ t.frameBufs, b ∈ s.frameBufs ∨ s.HoldsIntact b) : t.ContentLaw := by
  unfold State.ContentLaw
  rw [hcontents]
  exact ⟨fun b hb => (hframes b hb).elim (hs.1 b) id, hs.2⟩

theorem contentLaw_of_same {s t : State} (hs : s.ContentLaw) (hcontents : t.contents = s.contents)
    (hN : t.portN = s.portN) (hS : t.portS = s.portS) (hdivert : t.divert = s.divert) :
    t.ContentLaw := by
  refine contentLaw_of_frames hs hcontents fun b hb => .inl ?_
  unfold State.frameBufs at hb ⊢
  rw [← hN, ← hS, ← hdivert]
  exact hb

/-- The same for a change of one port. -/
theorem contentLaw_modPort {s : State} (hs : s.ContentLaw) (p : Port) {f : PortState → PortState}
    (hf : ∀ b ∈ (f (s.port p)).frameBufs, b ∈ (s.port p).frameBufs ∨ s.HoldsIntact b) :
    (s.modPort p f).ContentLaw := by
  refine contentLaw_of_frames hs (by simp) fun b hb => ?_
  rw [mem_frameBufs _ p, modPort_port_self, modPort_port_opp, modPort_divert] at hb
  rw [mem_frameBufs _ p]
  rcases hb with hb | hb
  · exact (hf b hb).imp_left .inl
  · exact .inl (.inr hb)

/-- Other bytes in a buffer that is not past its reception. -/
theorem contentLaw_store {s : State} (hs : s.ContentLaw) {b : BufId} {bytes : List Byte}
    (hnew : b ∉ s.frameBufs) (hlength : bytes.length ≤ 247) : (s.store b bytes).ContentLaw := by
  obtain ⟨hintact, hbound⟩ := hs
  refine ⟨fun c hc => ?_, fun c => ?_⟩
  · have hne : b.val ≠ c.val := fun h => hnew (Fin.ext h ▸ hc)
    simpa [State.store, Vector.getElem_set, hne] using hintact c hc
  · by_cases hc : b.val = c.val
    · simpa [State.store, Vector.getElem_set, hc] using hlength
    · simpa [State.store, Vector.getElem_set, hc] using hbound c

theorem frameBufs_warm (ps : PortState) (kept : Bool) : (ps.warm kept).frameBufs = [] := by
  have h := bufs_warm ps kept
  simp only [PortState.bufs, List.append_eq_nil_iff] at h
  simp [PortState.frameBufs, h]

theorem Move.keeps_contentLaw {h h' : List BufId} {s t : State} (hmove : Move (h, s) (h', t))
    (hplaced : Accounted (h, s)) (hx : s.ContentLaw) : t.ContentLaw := by
  cases hmove with
  | port _ _ p f hframes =>
    obtain ⟨_, hcyc, hacyc, htx, _⟩ := hframes
    refine contentLaw_modPort hx p fun b hb => .inl ?_
    rwa [PortState.frameBufs, hcyc, hacyc, htx] at hb
  | claim _ _ p b rest hfree hrecv =>
    have hnew : b ∉ s.frameBufs := not_mem_frameBufs hplaced p (.inl (by simp [hfree]))
    refine contentLaw_modPort ?_ p fun c hc => .inl hc
    exact contentLaw_store (contentLaw_of_same hx rfl rfl rfl rfl) hnew (Nat.zero_le _)
  | store _ _ p b bytes hrecv hlength =>
    exact contentLaw_store hx (not_mem_frameBufs hplaced p (.inr (by simp [hrecv, Receiver.bufs]))) hlength
  | lift _ _ p b r => exact contentLaw_modPort hx p fun c hc => .inl hc
  | enqueue _ _ p cls b _ _ hintact =>
    refine contentLaw_modPort hx p fun c hc => ?_
    have hcases : c ∈ (s.port p).frameBufs ∨ c = b := by
      rw [mem_frameBufs_port] at hc ⊢
      cases cls <;> simp [PortState.enqueue, descrBufs_append] at hc <;> tauto
    exact hcases.imp id fun (heq : c = b) => heq ▸ hintact
  | mark _ _ p m =>
    refine contentLaw_modPort hx p fun c hc => .inl ?_
    rw [mem_frameBufs_port] at hc ⊢
    simpa [descrBufs_append] using hc
  | divert _ _ d _ hintact =>
    refine contentLaw_of_frames hx rfl fun c hc => ?_
    rw [mem_frameBufs _ .N] at hc ⊢
    rcases hc with hc | hc | ⟨e, he, rfl⟩
    · exact .inl (.inl hc)
    · exact .inl (.inr (.inl hc))
    · rcases List.mem_append.1 he with he | he
      · exact .inl (.inr (.inr ⟨e, he, rfl⟩))
      · exact .inr (List.mem_singleton.1 he ▸ hintact)
  | undivert _ _ d rest hqueue =>
    refine contentLaw_of_frames hx rfl fun c hc => .inl ?_
    rw [mem_frameBufs _ .N] at hc ⊢
    rcases hc with hc | hc | ⟨e, he, rfl⟩
    · exact .inl hc
    · exact .inr (.inl hc)
    · exact .inr (.inr ⟨e, hqueue ▸ List.mem_cons_of_mem d he, rfl⟩)
  | sendCyclic _ _ p d rest hqueue =>
    refine contentLaw_modPort hx p fun c hc => .inl ?_
    rw [mem_frameBufs_port] at hc ⊢
    rw [hqueue]
    cases d <;> simp [Tx.bufs, Outgoing.bufs] at hc ⊢ <;> tauto
  | sendAcyclic _ _ p b rest hqueue =>
    refine contentLaw_modPort hx p fun c hc => .inl ?_
    rw [mem_frameBufs_port] at hc ⊢
    simp [hqueue, Tx.bufs, Outgoing.bufs] at hc ⊢
    tauto
  | endTx _ _ p tx hidle =>
    refine contentLaw_modPort ?_ p fun c hc => .inl ?_
    · exact contentLaw_of_same hx rfl rfl rfl rfl
    · rw [mem_frameBufs_port] at hc ⊢
      simp only [bufs_of_not_sending hidle, List.not_mem_nil, or_false] at hc
      exact hc.imp_right .inl
  | emptyQueues _ _ p =>
    refine contentLaw_modPort ?_ p fun c hc => .inl ?_
    · exact contentLaw_of_same hx rfl rfl rfl rfl
    · rw [mem_frameBufs_port] at hc ⊢
      simp only [descrBufs_nil, List.not_mem_nil, false_or] at hc
      exact .inr (.inr hc)
  | note _ _ _ ht =>
    rw [ht]
    exact contentLaw_of_same hx rfl rfl rfl rfl
  | warmReset _ =>
    refine contentLaw_of_frames hx (by simp) fun c hc => ?_
    rw [mem_frameBufs _ .N, warmReset_port, warmReset_port, frameBufs_warm, frameBufs_warm,
      warmReset_divert] at hc
    simp at hc
  | release | manage | rewrite | write | erase | enlist | unlist | disarm | gate | ident | mode
  | freezeLevel => exact contentLaw_of_same hx rfl rfl rfl rfl

end Sys2Proof.Machine

/-! SUPPORT. Each operation of the model as a sequence of moves, and every command of a running part. -/

namespace Sys2Proof.Machine

section
variable {h : List BufId} {s : State}

/-! ### Ports, claims and the management unit -/

/-- Counters and what counts toward UP and line resets concern no law. -/
theorem moves_tally (p : Port) (up : PortState → Nat) (brk : PortState → Bool)
    (counters : PortState → PortCounters) :
    Moves (h, s) (h, s.modPort p fun ps =>
      { ps with upCount := up ps, breakTaken := brk ps, counters := counters ps }) :=
  .single (.port h s p _ ⟨rfl, rfl, rfl, rfl, id⟩ id)

theorem moves_count (p : Port) (c : PortCounter) : Moves (h, s) (h, s.count p c) :=
  moves_tally p PortState.upCount PortState.breakTaken fun ps => ps.counters.inc c

theorem moves_symbol (p : Port) : Moves (h, s) (h, s.modPort p PortState.symbol) :=
  moves_tally p (fun _ => 0) (fun _ => false) PortState.counters

theorem moves_release (b : BufId) : Moves (b :: h, s) (h, s.release b) := .single (.release h s b)

theorem moves_endTx (p : Port) {tx : Tx} (hidle : tx.isSending = false) :
    Moves (h, s) (h, s.endTx p tx) :=
  .single (.endTx h s p tx hidle)

/-- A claim is followed by the alert unit's comparison (R193). -/
theorem moves_alerting {x : List BufId × State} {claim : State → State}
    (hclaim : Moves x (h, claim s)) : Moves x (h, s.alerting claim) := by
  refine hclaim.tail (.note h (claim s) _ ?_ ?_)
  · conv_lhs => rw [alerting_frame]
    simp
  · rw [alerting_causes]
    exact .inl

theorem moves_modMgmt (f : Mgmt → Mgmt) : Moves (h, s) (h, s.modMgmt f) :=
  .single (.manage h s (f s.mgmt) s.responses (.inr le_rfl))

theorem moves_respondNow (r : Response) : Moves (h, s) (h, s.respondNow r) := by
  rcases Nat.lt_or_ge s.responses.length 8 with hp | hp
  · rw [respondNow_of_place s r hp]
    exact .single (.manage h s s.mgmt _ (.inl (by simpa using hp)))
  · rw [respondNow_of_full s r hp]
    exact moves_modMgmt _

theorem moves_finish (r : Response) : Moves (h, s) (h, s.finish r) := by
  rcases Nat.lt_or_ge s.responses.length 8 with hp | hp
  · rw [finish_of_place s r hp]
    exact .single (.manage h s _ _ (.inl (by simpa using hp)))
  · rw [finish_of_full s r hp]
    exact moves_modMgmt fun m => { m with executing := some (.built r) }

/-! ### Reception -/

/-- A receiver that fills no buffer goes to another such state of an UP port. -/
theorem moves_setReceiver (p : Port) {r : Receiver} (hold : (s.port p).receiver.bufs = [])
    (hnew : r = .hunt ∨ r = .skip) : Moves (h, s) (h, s.modPort p fun ps => ps.setReceiver r) := by
  refine .single (.port h s p _ ⟨?_, rfl, rfl, rfl, id⟩ fun hp =>
    lawful_of_up hp ?_ rfl rfl rfl rfl rfl rfl)
  · exact (bufs_of_hunt_or_skip hnew).trans hold.symm
  · rcases hnew with rfl | rfl <;> nofun

/-- A frame in reception is dropped and counted errored (R13, R14). -/
theorem moves_dropFill (p : Port) {b : BufId} {r : Receiver} (hrecv : (s.port p).receiver = .fill b)
    (hnext : r = .hunt ∨ r = .skip) :
    Moves (h, s) (h, ((s.release b).count p .errored).modPort p fun ps => ps.setReceiver r) := by
  have hlift : Moves (h, s) (h, (s.modPort p fun ps => ps.setReceiver r).release b) :=
    (Relation.ReflTransGen.single (.lift h s p b r hrecv hnext)).trans (moves_release b)
  have heq : ((s.release b).count p .errored).modPort p (fun ps => ps.setReceiver r) =
      ((s.modPort p fun ps => ps.setReceiver r).release b).count p .errored := by
    cases p <;> rfl
  rw [heq]
  exact hlift.trans (moves_count p .errored)

/-- The frame in progress ends, the port staying UP (R15). -/
theorem moves_cutReception (p : Port) (hup : (s.port p).receiver ≠ .off) :
    Moves (h, s) (h, s.cutReception p .hunt) := by
  unfold State.cutReception
  split
  next b hrecv =>
    have heq : ((((s.release b).count p .errored).count p .aborted).modPort p
          fun ps => ps.setReceiver .hunt) =
        (((s.release b).count p .errored).modPort p fun ps => ps.setReceiver .hunt).count p
          .aborted := by
      cases p <;> rfl
    rw [heq]
    exact (moves_dropFill p hrecv (.inl rfl)).trans (moves_count p .aborted)
  next hrecv =>
    refine moves_setReceiver p ?_ (.inl rfl)
    cases hr : (s.port p).receiver with
    | fill b => exact absurd hr (hrecv b)
    | off => exact absurd hr hup
    | hunt | skip => rfl

theorem moves_noBuffer (p : Port)
    (hrecv : (s.port p).receiver = .hunt ∨ (s.port p).receiver = .skip) :
    Moves (h, s) (h, s.noBuffer p) := by
  refine moves_alerting (((moves_setReceiver p (bufs_of_hunt_or_skip hrecv) (.inr rfl)).trans
    (moves_count p .noBuffer)).tail (.note _ _ _ rfl ?_))
  exact .inl

theorem moves_takeSof (p : Port) : Moves (h, s) (h, s.takeSof p) := by
  have hclaim (hrecv : (s.port p).receiver = .hunt ∨ (s.port p).receiver = .skip) :
      Moves (h, s) (h, s.claim p) := by
    unfold State.claim
    split
    next => exact moves_noBuffer p hrecv
    next b rest hfree => exact .single (.claim h s p b rest hfree hrecv)
  unfold State.takeSof
  split
  next => exact .refl
  next hrecv => exact hclaim (.inl hrecv)
  next hrecv => exact hclaim (.inr hrecv)
  next b hrecv =>
    exact (Relation.ReflTransGen.single (.store h s p b [] hrecv (Nat.zero_le _))).trans
      (moves_count p .errored)

theorem moves_takeByte (p : Port) (x : Byte) : Moves (h, s) (h, s.takeByte p x) := by
  unfold State.takeByte
  split
  next b hrecv =>
    split
    next hspace =>
      have hlength : (s.contents[b] ++ [x]).length ≤ 247 := by
        rw [List.length_append]
        exact hspace
      exact .single (.store h s p b _ hrecv hlength)
    next => exact moves_dropFill p hrecv (.inr rfl)
  next => exact .refl

theorem moves_takeAbortSymbol (p : Port) : Moves (h, s) (h, s.takeAbortSymbol p) := by
  unfold State.takeAbortSymbol
  split
  next hup => exact moves_cutReception p ((isUp_iff _).1 hup)
  next => exact .refl

/-- A DOWN port comes UP (R8). -/
theorem moves_comeUp (p : Port) {f : PortState → PortState} (hoff : (s.port p).receiver = .off)
    (hf : f (s.port p) = (s.port p).comeUp) : Moves (h, s) (h, s.modPort p f) := by
  refine .single (.port h s p f ?_ ?_) <;> rw [hf]
  · exact ⟨by rw [hoff]; rfl, rfl, rfl, rfl, id⟩
  · exact fun hp => lawful_of_up hp nofun rfl rfl rfl rfl rfl rfl

theorem modPort_congr (p : Port) {f g : PortState → PortState} (hfg : f (s.port p) = g (s.port p)) :
    s.modPort p f = s.modPort p g := by
  cases p
  · exact congrArg (fun x => { s with portN := x }) hfg
  · exact congrArg (fun x => { s with portS := x }) hfg

theorem modPort_id (p : Port) {f : PortState → PortState} (hf : f (s.port p) = s.port p) :
    s.modPort p f = s :=
  (modPort_congr p (g := id) hf).trans (by cases p <;> rfl)

theorem moves_takeUp (p : Port) : Moves (h, s) (h, s.modPort p PortState.takeUp) := by
  cases hup : (s.port p).isUp with
  | true =>
    rw [modPort_id p (by simp [PortState.takeUp, hup])]
  | false =>
    exact moves_comeUp p ((isUp_eq_false_iff _).1 hup) (by simp [PortState.takeUp, hup])

theorem moves_idle (p : Port) : Moves (h, s) (h, s.modPort p PortState.idle) := by
  cases hup : (s.port p).isUp with
  | true =>
    rw [modPort_congr p (g := fun ps => { ps with breakTaken := false })
      (by simp [PortState.idle, hup])]
    exact moves_tally p PortState.upCount (fun _ => false) PortState.counters
  | false =>
    by_cases hfull : Config.upIdles ≤ (s.port p).upCount + 1
    · exact moves_comeUp p ((isUp_eq_false_iff _).1 hup) (by simp [PortState.idle, hup, hfull])
    · rw [modPort_congr p
        (g := fun ps => { ps with upCount := ps.upCount + 1, breakTaken := false })
        (by simp [PortState.idle, hup, hfull])]
      exact moves_tally p (fun ps => ps.upCount + 1) (fun _ => false) PortState.counters

/-! ### Flow control -/

/-- The re-send count stays below 15 by the pause repeat's range (R136, R140). -/
theorem lawful_frameReport {ps : PortState} (hup : ps.receiver ≠ .off) (x : Placed) (depth : Nat)
    (hp : ps.Lawful) : (ps.frameReport x depth).Lawful := by
  obtain ⟨⟨hopen, hresend, hslot, hheld, hset⟩, hdown⟩ := hp
  have hrepeat : ps.settings.pauseRepeat ≤ 16 := by
    obtain ⟨_, _, _, hrepeat, _⟩ := hset
    omega
  unfold PortState.frameReport
  split
  next hstate =>
    split
    · exact ⟨⟨nofun, Nat.zero_le _, nofun, hheld, hset⟩, fun hoff => absurd hoff hup⟩
    · exact ⟨⟨hopen, hresend, hslot, hheld, hset⟩, hdown⟩
  next hstate =>
    split
    · exact ⟨⟨fun _ => rfl, Nat.zero_le _, nofun, hheld, hset⟩, fun hoff => absurd hoff hup⟩
    next hbelow =>
      refine ⟨⟨fun ho => ?_, ?_, hslot, hheld, hset⟩, fun hoff => absurd hoff hup⟩
      · exact absurd (hstate.symm.trans ho) nofun
      · show ps.resend + 1 ≤ 15
        omega

theorem lawful_drainReport {ps : PortState} (depth : Nat) (hp : ps.Lawful) :
    (ps.drainReport depth).Lawful := by
  unfold PortState.drainReport
  split
  next hpaused =>
    obtain ⟨⟨_, _, _, hheld, hset⟩, hdown⟩ := hp
    refine ⟨⟨fun _ => rfl, Nat.zero_le _, fun _ => rfl, hheld, hset⟩, fun hoff => ?_⟩
    obtain ⟨_, _, _, hopen, _⟩ := hdown hoff
    exact absurd (hopen.symm.trans hpaused.1) nofun
  next => exact hp

theorem sameFrames_frameReport (ps : PortState) (x : Placed) (depth : Nat) :
    ps.SameFrames (ps.frameReport x depth) := by
  unfold PortState.frameReport
  split <;> split <;> exact ⟨rfl, rfl, rfl, rfl, id⟩

theorem sameFrames_drainReport (ps : PortState) (depth : Nat) :
    ps.SameFrames (ps.drainReport depth) := by
  unfold PortState.drainReport
  split <;> exact ⟨rfl, rfl, rfl, rfl, id⟩

theorem moves_reportFrame (p : Port) (x : Placed) (hup : (s.port p).receiver ≠ .off) :
    Moves (h, s) (h, s.reportFrame p x) :=
  .single (.port h s p (fun ps => ps.frameReport x (s.port p.opp).acyclic.length)
    (sameFrames_frameReport _ x _) (lawful_frameReport hup x _))

theorem moves_drainReport (p : Port) (depth : Nat) :
    Moves (h, s) (h, s.modPort p fun ps => ps.drainReport depth) :=
  .single (.port h s p _ (sameFrames_drainReport _ depth) (lawful_drainReport depth))

theorem moves_hold (p : Port) (hup : (s.port p).receiver ≠ .off) :
    Moves (h, s) (h, s.modPort p PortState.hold) := by
  refine .single (.port h s p _ ⟨rfl, rfl, rfl, rfl, id⟩ fun hp => ?_)
  obtain ⟨hopen, hresend, hslot, _, hset⟩ := hp.1
  exact ⟨⟨hopen, hresend, hslot, ⟨fun _ => nofun, fun _ => rfl⟩, hset⟩, fun hoff => absurd hoff hup⟩

theorem moves_unhold (p : Port) : Moves (h, s) (h, s.modPort p PortState.unhold) := by
  refine .single (.port h s p _ ⟨rfl, rfl, rfl, rfl, id⟩ fun hp => ?_)
  obtain ⟨⟨hopen, hresend, hslot, _, hset⟩, hdown⟩ := hp
  refine ⟨⟨hopen, hresend, hslot, ⟨nofun, fun hne => absurd rfl hne⟩, hset⟩, fun hoff => ?_⟩
  obtain ⟨hcyc, hacyc, hempty, hpause, _, htx⟩ := hdown hoff
  exact ⟨hcyc, hacyc, hempty, hpause, rfl, htx⟩

theorem moves_restFlow (p : Port) : Moves (h, s) (h, s.modPort p PortState.restFlow) := by
  refine .single (.port h s p _ ⟨rfl, rfl, rfl, rfl, id⟩ fun hp => ?_)
  obtain ⟨⟨_, _, _, _, hset⟩, hdown⟩ := hp
  refine ⟨restFlow_flowSound hset, fun hoff => ?_⟩
  obtain ⟨hcyc, hacyc, _, _, _, htx⟩ := hdown hoff
  exact ⟨hcyc, hacyc, rfl, rfl, rfl, htx⟩

theorem moves_takeHoldExpiry (p : Port) : Moves (h, s) (h, s.takeHoldExpiry p) := by
  unfold State.takeHoldExpiry
  split
  · refine moves_alerting (((moves_unhold p).trans (moves_count p .holdExpiries)).tail
      (.note _ _ _ rfl ?_))
    exact .inl
  · exact .refl

/-! ### Line events -/

theorem moves_flushQueues (p : Port) : Moves (h, s) (h, s.flushQueues p) :=
  (Relation.ReflTransGen.single (.emptyQueues h s p)).trans (moves_drainReport p.opp 0)

theorem moves_abandon (p : Port) : Moves (h, s) (h, s.abandon p) := by
  unfold State.abandon
  split
  · exact moves_endTx p rfl
  · exact .refl

theorem moves_abandonTraffic (p : Port) : Moves (h, s) (h, s.abandonTraffic p) := by
  unfold State.abandonTraffic
  split
  · exact moves_endTx p rfl
  · exact .refl

/-- A port after a line event (R9, R15, R132, R147). -/
theorem portEvent_port_self (s : State) (p : Port) (r : Receiver) :
    (s.portEvent p r).port p = (s.port p).afterEvent r := by
  have hcut : (s.cutReception p r).port p =
      { s.port p with
        receiver := r
        counters := ((s.port p).afterEvent r).counters } := by
    unfold State.cutReception
    cases hr : (s.port p).receiver <;>
      simp [State.count, hr, PortState.setReceiver, PortState.afterEvent, PortCounters.inc]
  simp only [State.portEvent, modPort_port_self, flushQueues_port_self, abandon_port_self, hcut]
  rfl

/-- A port that goes DOWN has first ended its frames, flushed and rested as an UP port does. -/
theorem portEvent_off (s : State) (p : Port) :
    s.portEvent p .off = (s.portEvent p .hunt).modPort p fun ps => ps.setReceiver .off := by
  unfold State.portEvent State.cutReception State.abandon
  cases p <;> cases hr : s.portN.receiver <;> cases hr' : s.portS.receiver <;>
    simp only [State.port, hr, hr', State.count, State.modPort, State.release, PortState.setReceiver] <;>
    split <;> rfl

theorem moves_portEvent_hunt (p : Port) (hup : (s.port p).receiver ≠ .off) :
    Moves (h, s) (h, s.portEvent p .hunt) :=
  (((moves_cutReception p hup).trans (moves_abandon p)).trans (moves_flushQueues p)).trans
    (moves_restFlow p)

theorem moves_portEvent_off (p : Port) (hup : (s.port p).receiver ≠ .off) :
    Moves (h, s) (h, s.portEvent p .off) := by
  rw [portEvent_off]
  refine (moves_portEvent_hunt p hup).tail (.port h _ p _ ⟨?_, rfl, rfl, rfl, id⟩ fun hp => ?_)
  · rw [portEvent_port_self]
    rfl
  · refine ⟨hp.1, fun _ => ?_⟩
    rw [portEvent_port_self]
    refine ⟨rfl, rfl, rfl, rfl, rfl, ?_⟩
    show (if (s.port p).tx.isSending = true then Tx.spacing .abort else (s.port p).tx).isSending = false
    split
    · rfl
    next hidle => simpa using hidle

theorem moves_discardHeld : Moves (h, s) (h, s.discardHeld) := by
  have hrest {t : State} (ht : Moves (h, s) (h, t)) :
      Moves (h, s)
        (h, { t.modMgmt fun m =>
                { m with executing := none, waiting := none, linkEvents := satInc m.linkEvents } with
              responses := []
              alertSlot := none }) :=
    (ht.tail (.manage _ _ _ [] (.inl (Nat.zero_le _)))).tail (.note _ _ _ rfl (.inl))
  unfold State.discardHeld
  split
  · exact hrest (moves_modMgmt _)
  · exact hrest .refl

theorem moves_linkEvent : Moves (h, s) (h, s.linkEvent) := by
  unfold State.linkEvent
  split
  · exact moves_discardHeld
  · refine moves_alerting ((moves_discardHeld.trans (moves_modMgmt Mgmt.hold)).tail
      (.note _ _ _ rfl ?_))
    exact .inl

theorem moves_linkPart (p : Port) : Moves (h, s) (h, s.linkPart p) := by
  cases p
  · exact moves_linkEvent
  · exact .refl

theorem moves_takeBreak (p : Port) : Moves (h, s) (h, s.takeBreak p) := by
  unfold State.takeBreak
  split
  next => exact moves_tally p (fun _ => 0) PortState.breakTaken PortState.counters
  next hup =>
    split
    next => exact .refl
    next =>
      refine (((moves_tally p PortState.upCount (fun _ => true) PortState.counters).trans
        (moves_count p .lineResets)).trans (moves_portEvent_hunt p ?_)).trans (moves_linkPart p)
      simpa [State.count, isUp_iff] using hup

theorem moves_takeDown (p : Port) : Moves (h, s) (h, s.takeDown p) := by
  unfold State.takeDown
  split
  next hup =>
    refine (((moves_tally p (fun _ => 0) PortState.breakTaken PortState.counters).trans
      (moves_count p .downEvents)).trans (moves_portEvent_off p ?_)).trans (moves_linkPart p)
    simpa [State.count, isUp_iff] using hup
  next => exact .refl

end

end Sys2Proof.Machine

/-! SUPPORT. The transmitters, the classifier, the cadence engine and a change of mode as moves. -/

namespace Sys2Proof.Machine

section
variable {h : List BufId} {s : State}

/-! ### The transmitters -/

theorem moves_send (p : Port) {o : Outgoing} (htx : (s.port p).tx = .ready)
    (hup : (s.port p).receiver ≠ .off) (hbufs : o.bufs = []) (htraffic : o.isTraffic = false) :
    Moves (h, s) (h, s.send p o) := by
  refine .single (.port h s p _ ⟨rfl, rfl, rfl, ?_, fun ht => ?_⟩ fun hp =>
    lawful_of_up hp hup rfl rfl rfl rfl rfl rfl)
  · rw [htx]
    exact hbufs
  · exact absurd ht (by simp [Tx.sendsTraffic, htraffic])

/-- The control slot empties (R142). -/
theorem moves_clearSlot (p : Port) (hup : (s.port p).receiver ≠ .off) :
    Moves (h, s) (h, s.modPort p fun ps => { ps with controlSlot := none }) := by
  refine .single (.port h s p _ ⟨rfl, rfl, rfl, rfl, id⟩ fun hp => ?_)
  obtain ⟨hopen, hresend, _, hheld, hset⟩ := hp.1
  exact ⟨⟨hopen, hresend, nofun, hheld, hset⟩, fun hoff => absurd hoff hup⟩

theorem moves_startFrom (p : Port) (src : Source) (htx : (s.port p).tx = .ready)
    (hup : (s.port p).receiver ≠ .off) (hsrc : s.eligible p src = true) :
    Moves (h, s) (h, s.startFrom p src) := by
  cases src with
  | control =>
    simp only [State.startFrom, State.startControl]
    split
    next => exact .refl
    next k _ =>
      refine ((moves_clearSlot p hup).trans (moves_count p k.counter)).trans
        (moves_send p ?_ ?_ rfl rfl)
      · simpa [State.count] using htx
      · simpa [State.count] using hup
  | response =>
    simp only [State.startFrom, State.startResponse]
    split
    next => exact .refl
    next r rest hqueue =>
      have hlength : rest.length ≤ s.responses.length := by
        rw [hqueue]
        exact Nat.le_succ _
      refine (Relation.ReflTransGen.single (.manage h s s.mgmt rest (.inr hlength))).trans
        (moves_send p ?_ ?_ rfl rfl)
      · rwa [port_congr rfl rfl p]
      · rwa [port_congr rfl rfl p]
  | alert =>
    simp only [State.startFrom, State.startAlert]
    split
    next => exact .refl
    next a _ =>
      refine (Relation.ReflTransGen.single (.note h s _ rfl .inl)).trans (moves_send p ?_ ?_ rfl rfl)
      · rwa [port_congr rfl rfl p]
      · rwa [port_congr rfl rfl p]
  | cyclic =>
    simp only [State.eligible, Bool.and_eq_true, Bool.not_eq_true'] at hsrc
    simp only [State.startFrom, State.startCyclic]
    split
    next => exact .refl
    next d rest hqueue =>
      have heq : (s.modPort p fun ps => { ps with cyclic := rest }).send p (.cyclic d) =
          s.modPort p fun ps => { ps with cyclic := rest, tx := .sending (.cyclic d) } :=
        modPort_modPort s p _ _
      rw [heq]
      exact .single (.sendCyclic h s p d rest hqueue htx hup hsrc.2)
  | acyclic =>
    simp only [State.eligible, Bool.and_eq_true, Bool.not_eq_true'] at hsrc
    simp only [State.startFrom, State.startAcyclic]
    split
    next => exact .refl
    next b rest hqueue =>
      have heq : (s.modPort p fun ps => { ps with acyclic := rest }).send p (.acyclic b) =
          s.modPort p fun ps => { ps with acyclic := rest, tx := .sending (.acyclic b) } :=
        modPort_modPort s p _ _
      rw [heq]
      exact (Relation.ReflTransGen.single (.sendAcyclic h s p b rest hqueue htx hup hsrc.1.2)).trans
        (moves_drainReport p.opp rest.length)

theorem moves_takeStart (p : Port) : Moves (h, s) (h, s.takeStart p) := by
  unfold State.takeStart
  split
  next hready =>
    split
    next => exact .refl
    next src hchoose =>
      exact moves_startFrom p src hready.1 ((isUp_iff _).1 hready.2) (List.find?_some hchoose)
  next => exact .refl

/-- A transmitter that holds no frame goes to another such state. -/
theorem moves_setTx (p : Port) {f : PortState → PortState} {tx : Tx}
    (hf : f (s.port p) = { s.port p with tx := tx }) (hold : (s.port p).tx.isSending = false)
    (hnew : tx.isSending = false) : Moves (h, s) (h, s.modPort p f) := by
  refine .single (.port h s p f ?_ ?_) <;> rw [hf]
  · refine ⟨rfl, rfl, rfl, ?_, fun ht => ?_⟩
    · exact (bufs_of_not_sending hnew).trans (bufs_of_not_sending hold).symm
    · exact absurd ht (by simp [sendsTraffic_of_not_sending hnew])
  · exact fun hp => lawful_endTx hp hnew

theorem moves_afterSpacing (p : Port) :
    Moves (h, s) (h, s.modPort p fun ps => { ps with tx := ps.tx.afterSpacing }) := by
  cases htx : (s.port p).tx with
  | spacing => exact moves_setTx p (tx := .ready) (by simp [htx, Tx.afterSpacing]) (by rw [htx]; rfl) rfl
  | ready | sending | brk => rw [modPort_id p (by rw [htx, Tx.afterSpacing, ← htx]; nofun)]

theorem moves_afterBreak (p : Port) :
    Moves (h, s) (h, s.modPort p fun ps => { ps with tx := ps.tx.afterBreak }) := by
  cases htx : (s.port p).tx with
  | brk => exact moves_setTx p (tx := .spacing .brk) (by simp [htx, Tx.afterBreak]) (by rw [htx]; rfl) rfl
  | ready | sending | spacing => rw [modPort_id p (by rw [htx, Tx.afterBreak, ← htx]; nofun)]

/-! ### The table -/

/-- An entry that changes with its key, group and state kept. -/
theorem moves_sameState {i : Byte} {e e' : Entry} (he : s.entry i = some e)
    (hport : e'.keyPort = e.keyPort) (hid : e'.streamId = e.streamId) (hgroup : e'.group = e.group)
    (hst : e'.state = e.state) : Moves (h, s) (h, s.setEntry i (some e')) :=
  .single (.rewrite h s i e e' he hport hid hgroup (fun hl _ => hst.trans hl)
    fun ht => .inl (hst ▸ ht))

theorem moves_modEntry (i : Byte) {f : Entry → Entry}
    (hf : ∀ e, (f e).keyPort = e.keyPort ∧ (f e).streamId = e.streamId ∧ (f e).group = e.group ∧
      (f e).state = e.state) : Moves (h, s) (h, s.modEntry i f) := by
  cases he : s.entry i with
  | none =>
    have heq : s.modEntry i f = s := by
      have hself := setEntry_entry s i
      rw [he] at hself
      rw [State.modEntry, he]
      exact hself
    rw [heq]
  | some e =>
    rw [modEntry_eq s i f e he]
    obtain ⟨hport, hid, hgroup, hst⟩ := hf e
    exact moves_sameState he hport hid hgroup hst

theorem moves_countEntry (i : Byte) (c : EntryCounter) :
    Moves (h, s) (h, s.modEntry i fun e => e.count c) :=
  moves_modEntry i fun _ => ⟨rfl, rfl, rfl, rfl⟩

theorem moves_unlist (i : Byte) : Moves (h, s) (h, s.unlist i) :=
  .single (.unlist h s _ List.filter_sublist)

/-! ### The classifier -/

theorem moves_place {b : BufId} (q : Port) (cls : StreamClass) (hmode : s.mode.isHalted = false)
    (hintact : s.HoldsIntact b) : Moves (b :: h, s) (h, s.place q cls b) := by
  unfold State.place
  split
  next hplace => exact .single (.enqueue h s q cls b hplace hmode hintact)
  next => exact (moves_release b).trans (moves_count q .queueFull)
  next => exact (moves_release b).trans (moves_count q .downDrops)

/-- A placement leaves the opposite of its egress port as it is. -/
theorem place_opp_port (s : State) (p : Port) (cls : StreamClass) (b : BufId) :
    (s.place p.opp cls b).port p = s.port p := by
  unfold State.place
  split <;> simp [State.count]

theorem moves_sendAcyclic {b : BufId} (p : Port) (hmode : s.mode.isHalted = false)
    (hintact : s.HoldsIntact b) (hup : (s.port p).receiver ≠ .off) :
    Moves (b :: h, s) (h, s.sendAcyclic p b) :=
  (moves_place p.opp .acyclic hmode hintact).trans
    (moves_reportFrame p _ (by rwa [place_opp_port]))

theorem moves_sendByClass {b : BufId} (p : Port) (cls : StreamClass)
    (hmode : s.mode.isHalted = false) (hintact : s.HoldsIntact b)
    (hup : (s.port p).receiver ≠ .off) : Moves (b :: h, s) (h, s.sendByClass p cls b) := by
  cases cls
  · exact moves_place p.opp .cyclic hmode hintact
  · exact moves_sendAcyclic p hmode hintact hup

theorem moves_divertFrame {b : BufId} (p : Port) (entry : Option Byte)
    (hintact : s.HoldsIntact b) : Moves (b :: h, s) (h, s.divertFrame p entry b) := by
  unfold State.divertFrame
  split
  next hspace =>
    exact moves_alerting (.single (.divert h s ⟨b, p, entry⟩ hspace hintact))
  next => exact (moves_release b).trans (moves_count p .queueFull)

theorem holdsIntact_of_contents {t : State} {b : BufId} (hs : s.HoldsIntact b)
    (hcontents : t.contents = s.contents) : t.HoldsIntact b := by
  unfold State.HoldsIntact
  rw [hcontents]
  exact hs

theorem moves_miss {b : BufId} (p : Port) (hmode : s.mode.isHalted = false)
    (hintact : s.HoldsIntact b) (hup : (s.port p).receiver ≠ .off) :
    Moves (b :: h, s) (h, s.miss p b) := by
  have hcounted : (s.count p .misses).HoldsIntact b := holdsIntact_of_contents hintact (by simp)
  unfold State.miss
  refine (moves_count p .misses).trans ?_
  dsimp only
  split
  · exact moves_sendAcyclic p (by simpa using hmode) hcounted (by simpa [State.count] using hup)
  · exact moves_release b
  · exact moves_divertFrame p none hcounted

theorem countPlaced_keeps (e : Entry) (x : Placed) :
    (e.countPlaced x).keyPort = e.keyPort ∧ (e.countPlaced x).streamId = e.streamId ∧
      (e.countPlaced x).group = e.group ∧ (e.countPlaced x).state = e.state := by
  cases x <;> exact ⟨rfl, rfl, rfl, rfl⟩

theorem moves_act {b : BufId} (p : Port) (i : Byte) (e : Entry) (hmode : s.mode.isHalted = false)
    (hintact : s.HoldsIntact b) (hup : (s.port p).receiver ≠ .off) :
    Moves (b :: h, s) (h, s.act p i e b) := by
  unfold State.act
  split
  · refine (moves_modEntry i fun e => countPlaced_keeps e _).trans
      (moves_sendByClass p e.cls hmode (holdsIntact_of_contents hintact rfl) ?_)
    rwa [port_congr rfl rfl p]
  · exact (moves_countEntry i .dropped).trans (moves_release b)
  · split
    · exact moves_divertFrame p (some i) hintact
    · exact (moves_countEntry i .dropped).trans
        (moves_divertFrame p (some i) (holdsIntact_of_contents hintact rfl))

/-- The entry an arrival writes has the key and the group of the one it found. -/
theorem arrive_keeps (e : Entry) (seq : Byte) :
    ((if e.verdict seq = .slip then e.count .slips else e).expectNext seq).arrive.keyPort =
        e.keyPort ∧
      ((if e.verdict seq = .slip then e.count .slips else e).expectNext seq).arrive.streamId =
        e.streamId ∧
      ((if e.verdict seq = .slip then e.count .slips else e).expectNext seq).arrive.group =
        e.group := by
  unfold Entry.arrive Entry.expectNext
  split <;> split <;> exact ⟨rfl, rfl, rfl⟩

/-- An arrival: the index leaves the lapse list, and the entry, which may count, is TRACKING (R28, R108). -/
theorem moves_arrival {i : Byte} {e : Entry} (seq : Byte) (he : s.entry i = some e)
    (hrun : s.mode = .run) (hgate : s.gateOf e = .opened) :
    Moves (h, s) (h, s.arrival i e seq) := by
  obtain ⟨hport, hid, hgroup⟩ := arrive_keeps e seq
  have hwrite : Moves (h, s.unlist i) (h, s.arrival i e seq) := by
    refine .single (.rewrite h (s.unlist i) i e _ he hport hid hgroup (fun _ hi => ?_)
      fun _ => .inr ⟨hrun, hgate⟩)
    simp [State.unlist] at hi
  exact (moves_unlist i).trans hwrite

theorem moves_hit {b : BufId} {i : Byte} {e : Entry} (p : Port) (f : Frame)
    (he : s.entry i = some e) (hrun : s.mode = .run) (hintact : s.HoldsIntact b)
    (hup : (s.port p).receiver ≠ .off) : Moves (b :: h, s) (h, s.hit p i e f b) := by
  have hmode : s.mode.isHalted = false := by rw [hrun]; rfl
  unfold State.hit
  split_ifs with hclosed
  · exact (moves_sameState (e' := e.count .dropped) he rfl rfl rfl rfl).trans (moves_release b)
  · exact moves_act p i e hmode hintact hup
  · exact (moves_sameState (e' := e.count .duplicates) he rfl rfl rfl rfl).trans (moves_release b)
  · have hgate : s.gateOf e = .opened := by
      cases hg : s.gateOf e with
      | opened => rfl
      | closed => exact absurd (.inr hg) hclosed
    refine (moves_arrival f.seq he hrun hgate).trans
      (moves_act p i e hmode (holdsIntact_of_contents hintact rfl) ?_)
    rwa [port_congr rfl rfl p]

theorem moves_classify {b : BufId} (p : Port) (f : Frame) (hintact : s.HoldsIntact b)
    (hup : (s.port p).receiver ≠ .off) : Moves (b :: h, s) (h, s.classify p f b) := by
  unfold State.classify
  split
  next hmode => exact moves_sendAcyclic p (by rw [hmode]; rfl) hintact hup
  next => exact (moves_release b).trans (moves_count p .haltedDrops)
  next hrun =>
    have hmode : s.mode.isHalted = false := by rw [hrun]; rfl
    split
    next => exact moves_miss p hmode hintact hup
    next i _ =>
      split
      next => exact moves_miss p hmode hintact hup
      next e he => exact moves_hit p f he hrun hintact hup

/-! ### The cadence engine -/

theorem enlist_of_space (s : State) (i : Byte) (hspace : s.lapseList.length < 32) :
    s.enlist i =
      { s with
        lapseList := s.lapseList ++ [i]
        alertSlot := (s.enlist i).alertSlot
        alertNumber := (s.enlist i).alertNumber } := by
  conv_lhs => rw [enlist_frame]
  simp only [hspace, if_true]

theorem enlist_of_full (s : State) (i : Byte) (hfull : ¬s.lapseList.length < 32) :
    s.enlist i =
      { s with
        lapseOverflow := true
        alertSlot := (s.enlist i).alertSlot
        alertNumber := (s.enlist i).alertNumber } := by
  conv_lhs => rw [enlist_frame]
  simp only [hfull, if_false]

/-- The alert slot, the alert number and the lapse list's flag concern no law. -/
theorem moves_alertFields {a : Option Alert} {n : Byte} {o : Bool} :
    Moves (h, s) (h, { s with lapseOverflow := o, alertSlot := a, alertNumber := n }) :=
  .single (.note h s _ rfl .inl)

/-- A lapse's entry keeps its key and its group; it is LAPSED, and listed, exactly at the miss limit (R101,
R106). -/
theorem moves_lapsedEntry {i : Byte} {e : Entry} (t : Tracker) (lost : Bool)
    (he : s.entry i = some e) (hst : e.state.tracked = true) :
    Moves (h, s) (h,
      if t.misses + 1 = t.missLimit then (s.setEntry i (some (e.lapsed t lost))).enlist i
      else s.setEntry i (some (e.lapsed t lost))) := by
  have hlapsed := entry_lapsed e t lost
  have hport : (e.lapsed t lost).keyPort = e.keyPort := by rw [hlapsed]
  have hid : (e.lapsed t lost).streamId = e.streamId := by rw [hlapsed]
  have hgroup : (e.lapsed t lost).group = e.group := by rw [hlapsed]
  have hwrite : Moves (h, s) (h, s.setEntry i (some (e.lapsed t lost))) :=
    .single (.rewrite h s i e _ he hport hid hgroup
      (fun hl => absurd hst (by simp [hl, EntryState.tracked])) fun _ => .inl hst)
  split
  next hlimit =>
    by_cases hspace : s.lapseList.length < 32
    · have hstate : (e.lapsed t lost).state = .lapsed := by
        rw [hlapsed]
        exact if_pos hlimit
      rw [enlist_of_space (s.setEntry i _) i hspace]
      exact (Relation.ReflTransGen.single (.enlist h s i e _ he hport hid hst hstate hspace)).trans
        moves_alertFields
    · rw [enlist_of_full (s.setEntry i _) i hspace]
      exact hwrite.trans moves_alertFields
  next => exact hwrite

theorem moves_takeLapse {i : Byte} {e : Entry} (t : Tracker) (he : s.entry i = some e)
    (hst : e.state.tracked = true) (hrun : s.mode = .run) : Moves (h, s) (h, s.takeLapse i e t) := by
  have hmode : s.mode.isHalted = false := by rw [hrun]; rfl
  unfold State.takeLapse
  dsimp only
  by_cases hmark : (t.gapPolicy == .mark && (s.port e.keyPort.opp).takesMarker) = true
  · rw [if_pos hmark]
    simp only [Bool.and_eq_true] at hmark
    exact (Relation.ReflTransGen.single (.mark h s _ _ hmark.2 hmode)).trans
      (moves_lapsedEntry t _ (by simpa using he) hst)
  · rw [if_neg hmark]
    exact moves_lapsedEntry t _ he hst

theorem moves_takeTick {i : Byte} {e : Entry} (t : Tracker) (he : s.entry i = some e)
    (hst : e.state.tracked = true) (hrun : s.mode = .run) : Moves (h, s) (h, s.takeTick i e t) := by
  unfold State.takeTick
  dsimp only
  split
  · exact moves_takeLapse _ he hst hrun
  · exact moves_sameState he rfl rfl rfl rfl

theorem moves_atCounting (i : Byte) {f : Entry → Tracker → State}
    (hf : ∀ e t, s.entry i = some e → e.state.tracked = true → s.mode = .run →
      Moves (h, s) (h, f e t)) : Moves (h, s) (h, s.atCounting i f) := by
  unfold State.atCounting
  split
  next => exact .refl
  next e he =>
    split
    next => exact .refl
    next t _ =>
      split
      next hcount =>
        simp only [State.counting, Bool.and_eq_true, beq_iff_eq] at hcount
        obtain ⟨⟨htracked, hrun⟩, _⟩ := hcount
        exact hf e t he htracked hrun
      next => exact .refl

/-! ### The mode -/

theorem entry_not_tracked_of_disarm (i : Byte) (e : Entry)
    (he : (s.disarm fun _ => true).entry i = some e) : e.state.tracked = false := by
  rw [entry_disarm] at he
  obtain ⟨x, _, rfl⟩ := Option.map_eq_some_iff.1 he
  exact disarm_not_tracked x

theorem moves_enterHalted : Moves (h, s) (h, s.enterHalted) :=
  (((moves_abandonTraffic .N).trans (moves_abandonTraffic .S)).trans (moves_flushQueues .N)).trans
    (moves_flushQueues .S)

theorem abandonTraffic_port_self (s : State) (p : Port) :
    (s.abandonTraffic p).port p =
      { s.port p with
        tx := if (s.port p).tx.sendsTraffic then .spacing .abort else (s.port p).tx } := by
  unfold State.abandonTraffic
  split <;> simp

theorem abandonTraffic_port_opp (s : State) (p : Port) :
    (s.abandonTraffic p).port p.opp = s.port p.opp := by
  unfold State.abandonTraffic
  split <;> simp

/-- A drain report with nothing left, as the statements say it (R141). -/
theorem drainReport_zero (ps : PortState) : ps.drainReport 0 = ps.afterFlush := by
  simp [PortState.drainReport, PortState.afterFlush]

/-- Each port after the entry into HALTED: no traffic, and the flush of the other port's acyclic queue
reported (R133, R141). -/
theorem enterHalted_port (s : State) (p : Port) :
    s.enterHalted.port p =
      { (s.port p).afterFlush with
        cyclic := []
        acyclic := []
        tx := if (s.port p).tx.sendsTraffic then .spacing .abort else (s.port p).tx } := by
  have hN := abandonTraffic_port_self s .N
  have hN' := abandonTraffic_port_opp s .N
  have hS := abandonTraffic_port_self (s.abandonTraffic .N) .S
  have hS' := abandonTraffic_port_opp (s.abandonTraffic .N) .S
  have hF := flushQueues_port_self ((s.abandonTraffic .N).abandonTraffic .S) .N
  have hF' := flushQueues_port_opp ((s.abandonTraffic .N).abandonTraffic .S) .N
  have hG := flushQueues_port_self (((s.abandonTraffic .N).abandonTraffic .S).flushQueues .N) .S
  have hG' := flushQueues_port_opp (((s.abandonTraffic .N).abandonTraffic .S).flushQueues .N) .S
  simp only [Port.opp] at hN' hS' hF' hG'
  cases p
  · rw [State.enterHalted, hG', hF, hS', hN, drainReport_zero]
    unfold PortState.afterFlush
    dsimp only
    split <;> rfl
  · rw [State.enterHalted, hG, hF', hS, hN', drainReport_zero]
    unfold PortState.afterFlush
    dsimp only
    split <;> rfl

theorem moves_leaveRun (m : RunMode) : Moves (h, s) (h, s.leaveRun m) := by
  unfold State.leaveRun
  split
  · exact .single (.disarm h s _)
  · exact .refl

/-- Outside RUN, and once RUN is left, no entry counts (R30). -/
theorem not_tracked_of_leaveRun (m : RunMode) :
    m = .run ∨ s.mode ≠ .run ∨ ∀ i e, (s.leaveRun m).entry i = some e → e.state.tracked = false := by
  by_cases hm : m = .run
  · exact .inl hm
  by_cases hs : s.mode = .run
  · refine .inr (.inr fun i e he => ?_)
    rw [State.leaveRun, if_pos ⟨hs, hm⟩] at he
    exact entry_not_tracked_of_disarm i e he
  · exact .inr (.inl hs)

theorem moves_haltPath (m : RunMode) : Moves (h, s) (h, s.haltPath m) := by
  unfold State.haltPath
  split
  · exact moves_enterHalted
  · exact .refl

theorem haltPath_moves_ports (s : State) (m : RunMode) :
    ∃ n t f, s.haltPath m = { s with portN := n, portS := t, free := f } := by
  unfold State.haltPath
  split
  · exact enterHalted_moves s
  · exact ⟨_, _, _, rfl⟩

/-- Entering HALTED leaves both ports quiet (R133). -/
theorem quiet_of_haltPath {m : RunMode} (hm : m.isHalted = true) :
    s.mode.isHalted = true ∨ ∀ p, ((s.haltPath m).port p).Quiet := by
  cases hs : s.mode.isHalted with
  | true => exact .inl rfl
  | false =>
    refine .inr fun p => ?_
    rw [haltPath_of_enter s m hm hs, enterHalted_port]
    refine ⟨rfl, rfl, ?_⟩
    show Tx.sendsTraffic (if _ then _ else _) = false
    split
    · rfl
    next hno => simpa using hno

theorem moves_clearFrozen (m : RunMode) : Moves (h, s) (h, s.clearFrozen m) := by
  unfold State.clearFrozen
  split
  · exact .single (.note h s _ rfl nofun)
  · exact .refl

theorem clearFrozen_moves_causes (s : State) (m : RunMode) :
    s.clearFrozen m = { s with causes := (s.clearFrozen m).causes } := by
  unfold State.clearFrozen
  split <;> rfl

/-- Leaving HALTED clears FROZEN (R199). -/
theorem not_frozen_of_clearFrozen (s : State) (m : RunMode) :
    m.isHalted = true ∨ s.mode.isHalted = false ∨ (s.clearFrozen m).causes.frozen = false := by
  cases hm : m.isHalted with
  | true => exact .inl rfl
  | false =>
    cases hs : s.mode.isHalted with
    | false => exact .inr (.inl rfl)
    | true => simp [State.clearFrozen, hm, hs]

/-- A change of mode: entries, queues and FROZEN first, then the mode (R30, R133, R199). -/
theorem moves_changeMode (m : RunMode) (hfreeze : s.freezeLow = true → m.isHalted = true) :
    Moves (h, s) (h, s.changeMode m) := by
  obtain ⟨u, hu⟩ : ∃ u, s.leaveRun m = u := ⟨_, rfl⟩
  have huframe : u = { s with table := u.table } := hu ▸ leaveRun_frame s m
  have humode : u.mode = s.mode := by rw [huframe]
  obtain ⟨v, hv⟩ : ∃ v, u.haltPath m = v := ⟨_, rfl⟩
  obtain ⟨n, t, f, hvframe⟩ := haltPath_moves_ports u m
  rw [hv] at hvframe
  have hvmode : v.mode = s.mode := by rw [hvframe, ← humode]
  have hwframe := clearFrozen_moves_causes v m
  have hset : Moves (h, v.clearFrozen m) (h, { v.clearFrozen m with mode := m }) := by
    refine .single (.mode h _ m ?_ ?_ ?_ ?_) <;> rw [hwframe]
    · intro hm
      have hquiet := quiet_of_haltPath (s := u) hm
      rw [humode, ← hvmode, hv] at hquiet
      exact hquiet.imp_right fun hq p => by rw [port_congr rfl rfl p]; exact hq p
    · have hleft := not_tracked_of_leaveRun (s := s) m
      rw [hu, ← hvmode] at hleft
      refine hleft.imp_right (Or.imp_right fun hno i e he => hno i e ?_)
      rw [hvframe] at he
      exact he
    · exact not_frozen_of_clearFrozen v m
    · rw [hvframe, huframe]
      exact hfreeze
  have heq : s.changeMode m = { v.clearFrozen m with mode := m } := by
    rw [State.changeMode, hu, hv]
  have hleave : Moves (h, s) (h, u) := hu ▸ moves_leaveRun m
  have hhalt : Moves (h, u) (h, v) := hv ▸ moves_haltPath m
  rw [heq]
  exact ((hleave.trans hhalt).trans (moves_clearFrozen m)).trans hset

end

end Sys2Proof.Machine

/-! SUPPORT. The slot commands, the management unit and EOF as moves, and from them every command of a
running part. -/

namespace Sys2Proof.Machine

section
variable {h : List BufId} {s : State}

/-! ### The slot commands -/

/-- What an entry write has passed its checks to do (R21, R23). -/
theorem moves_checkedWrite {i : Byte} {r : EntryRecord} {e : Entry}
    (hcheck : s.checkWrite i r = .ok e) : Moves (h, s) (h, s.setEntry i (some e)) := by
  have hrecord := entryOf_of_checkWrite hcheck
  have hst : e.state.tracked = false := by
    simp only [entryOf, Option.bind_eq_bind, Option.bind_eq_some_iff, Option.pure_def,
      Option.some.injEq] at hrecord
    obtain ⟨_, _, _, _, _, _, _, _, _, _, _, _, _, _, rfl⟩ := hrecord
    dsimp only
    split <;> rfl
  rw [State.checkWrite, hrecord] at hcheck
  dsimp only at hcheck
  split_ifs at hcheck with hown hlocked hactive hheld
  refine .single (.write h s i e (fun x hx => ?_) hst (fun j x hj hx hkey => ?_) hown)
  · by_contra hne
    exact hactive (by simp [hx, active_of_ne_suspended hne])
  · exact hheld ((keyHeldElsewhere_iff s _ _ i).2 ⟨j, x, hj, hx, hkey⟩)

theorem moves_slotWriteEntry (i : Byte) (r : EntryRecord) :
    Moves (h, s) (h, (slotWriteEntry i r s).state) := by
  unfold slotWriteEntry
  split
  next => exact .refl
  next e he => exact moves_checkedWrite he

theorem eq_suspended_of_not_active {st : EntryState} (hst : ¬st.active = true) : st = .suspended := by
  cases st with
  | suspended => rfl
  | armed | tracking | overdue | lapsed => exact absurd rfl hst

theorem moves_slotFreeEntry (i : Byte) : Moves (h, s) (h, (slotFreeEntry i s).state) := by
  unfold slotFreeEntry
  split
  next => exact .refl
  next e he =>
    split_ifs with _ hactive
    · exact .refl
    · exact .refl
    · refine .single (.erase h s i fun x hx => ?_)
      obtain rfl := Option.some.inj (he.symm.trans hx)
      exact eq_suspended_of_not_active hactive

theorem moves_slotArmEntry (i : Byte) : Moves (h, s) (h, (slotArmEntry i s).state) := by
  unfold slotArmEntry
  split
  next => exact .refl
  next e he =>
    split_ifs with _ hactive
    · exact .refl
    · exact .refl
    · have hst := eq_suspended_of_not_active hactive
      exact .single (.rewrite h s i e e.arm he rfl rfl rfl (fun hl => absurd (hst.symm.trans hl) nofun)
        nofun)

theorem moves_slotSuspendEntry (i : Byte) : Moves (h, s) (h, (slotSuspendEntry i s).state) := by
  unfold slotSuspendEntry
  split
  next => exact .refl
  next e he =>
    split_ifs
    · exact .refl
    · refine (moves_unlist i).trans (.single (.rewrite h (s.unlist i) i e
        { e with state := .suspended } he rfl rfl rfl (fun _ hi => ?_) nofun))
      simp [State.unlist] at hi
    · exact .refl

theorem moves_slotTuneEntry (i : Byte) (r : TuneRecord) :
    Moves (h, s) (h, (slotTuneEntry i r s).state) := by
  unfold slotTuneEntry
  split
  · exact .refl
  · split
    next => exact .refl
    next e he =>
      split
      · exact .refl
      · split
        · exact .refl
        · exact moves_sameState he rfl rfl rfl rfl

theorem moves_slotStepScale (i d : Byte) : Moves (h, s) (h, (slotStepScale i d s).state) := by
  unfold slotStepScale
  split
  · exact .refl
  · split
    next => exact .refl
    next e he =>
      split
      · exact .refl
      · split
        · exact .refl
        · split
          · exact .refl
          · exact moves_sameState he rfl rfl rfl rfl

theorem moves_setGate (g : Fin 8) (o : Gate) : Moves (h, s) (h, s.setGate g o) := by
  cases o with
  | opened => exact .single (.gate h s g .opened nofun)
  | closed =>
    refine (Relation.ReflTransGen.single (.disarm h s fun e => e.group == g)).trans
      (.single (.gate h _ g .closed fun _ i e he hg => ?_))
    have he : (s.disarm fun e => e.group == g).entry i = some e := he
    rw [entry_disarm] at he
    obtain ⟨x, _, rfl⟩ := Option.map_eq_some_iff.1 he
    cases hx : (x.group == g)
    · rw [hx] at hg
      exact absurd (beq_iff_eq.2 hg) (by simp [hx])
    · rw [if_pos rfl]
      exact disarm_not_tracked x

theorem moves_slotSetGate (g o : Byte) : Moves (h, s) (h, (slotSetGate g o s).state) := by
  unfold slotSetGate
  split
  · split_ifs
    · exact .refl
    · exact .refl
    · exact moves_setGate _ _
  · exact .refl

theorem moves_slotSetMode (m : Byte) : Moves (h, s) (h, (slotSetMode m s).state) := by
  unfold slotSetMode
  split
  next => exact .refl
  next mode _ =>
    split
    next => exact .refl
    next hfree =>
      refine moves_changeMode mode fun hlow => ?_
      by_contra hm
      exact hfree ⟨hlow, hm⟩

/-- The settings that SET-PORT writes are in their ranges (R136). -/
theorem inRange_of_settingsOf {a : PortArgs} {st : PortSettings} (hst : settingsOf a = some st) :
    st.InRange := by
  obtain ⟨_, ⟨hupper, hup⟩, ⟨hlower, hlo⟩, _, ⟨hhold, hho⟩, hlt, hrepeat⟩ :=
    (settingsOf_eq_some_iff a st).1 hst
  exact ⟨hup ▸ hupper, hlo ▸ hlower, hlt, hrepeat, hho ▸ hhold⟩

theorem moves_writePort (p : Port) {st : PortSettings} (hst : st.InRange) (esc : Byte) :
    Moves (h, s) (h, s.writePort p st esc) := by
  have hset : Moves (h, s) (h, s.modPort p fun ps => { ps with settings := st }) := by
    refine .single (.port h s p _ ⟨rfl, rfl, rfl, rfl, id⟩ fun hp => ?_)
    obtain ⟨⟨hopen, hresend, hslot, hheld, _⟩, hdown⟩ := hp
    exact ⟨⟨hopen, hresend, hslot, hheld, hst⟩, hdown⟩
  cases p
  · exact hset.trans (moves_modMgmt fun m => { m with escTime := esc.toNat })
  · exact hset

theorem moves_slotSetPort (a : PortArgs) : Moves (h, s) (h, (slotSetPort a s).state) := by
  unfold slotSetPort
  split
  next p st _ hst =>
    split
    · exact .refl
    · exact moves_writePort p (inRange_of_settingsOf hst) a.escalation
  next => exact .refl

theorem moves_slotSetAlerts (b : Byte) : Moves (h, s) (h, (slotSetAlerts b s).state) := by
  unfold slotSetAlerts
  split_ifs
  · exact .refl
  · exact .refl
  · exact moves_alerting (claim := fun s => { s with enables := .ofByte b }) (.single (.note h s _ rfl .inl))

theorem moves_slotSetIdent (id : Word16) : Moves (h, s) (h, (slotSetIdent id s).state) := by
  unfold slotSetIdent
  split
  next => exact .refl
  next sid _ =>
    split
    next => exact .refl
    next hfree =>
      refine .single (.ident h s sid ((lookup_eq_none_iff s .N sid).1 ?_))
      simpa using hfree

theorem moves_slotSetLock (l : Byte) : Moves (h, s) (h, (slotSetLock l s).state) := by
  unfold slotSetLock
  split
  · exact .single (.note h s _ rfl .inl)
  · split
    · exact .single (.note h s _ rfl .inl)
    · exact .refl

theorem moves_slotSendLineReset (p : Byte) : Moves (h, s) (h, (slotSendLineReset p s).state) := by
  unfold slotSendLineReset
  split
  · exact moves_endTx .S rfl
  · exact .refl

theorem slotFindEntry_state (p : Byte) (id : Word16) (s : State) :
    (slotFindEntry p id s).state = s := by
  unfold slotFindEntry
  split
  · split
    · rfl
    · split <;> rfl
  · rfl

theorem moves_slotReadCounters (k target clear : Byte) :
    Moves (h, s) (h, (slotReadCounters k target clear s).state) := by
  unfold slotReadCounters
  split
  next c _ _ =>
    cases c
    · exact .refl
    · exact moves_modEntry target fun _ => ⟨rfl, rfl, rfl, rfl⟩
  next c _ _ =>
    split
    next => exact .refl
    next p _ =>
      cases c
      · exact .refl
      · exact moves_tally p PortState.upCount PortState.breakTaken fun _ => .zero
  next => exact .refl

theorem moves_slotReadLapses : Moves (h, s) (h, (slotReadLapses s).state) := by
  unfold slotReadLapses
  split
  · exact .refl
  · dsimp only
    exact (Relation.ReflTransGen.single (.note h s { s with lapseOverflow := false } rfl .inl)).tail
      (.unlist h _ _ (List.drop_sublist _ _))

theorem moves_slotReadDiverted : Moves (h, s) (h, (slotReadDiverted s).state) := by
  unfold slotReadDiverted
  split
  next => exact .refl
  next d rest hqueue =>
    exact (Relation.ReflTransGen.single (.undivert h s d rest hqueue)).trans (moves_release d.buf)

theorem moves_slotAckEvent : Moves (h, s) (h, (slotAckEvent s).state) :=
  (moves_modMgmt fun m => { m with heldEvent := false, escTimer := none, escalated := false }).tail
    (.note h _ _ rfl .inl)

theorem moves_runSlot (c : Command) : Moves (h, s) (h, (runSlot c s).state) := by
  cases c with
  | identify | readStatus | readEntry | bulkLoad | loadData | abort | halt | resetWarm => exact .refl
  | readAlerts => exact .single (.note h s _ rfl .inl)
  | ackEvent => exact moves_slotAckEvent
  | setMode m => exact moves_slotSetMode m
  | setPort a => exact moves_slotSetPort a
  | setAlerts e => exact moves_slotSetAlerts e
  | setIdent i => exact moves_slotSetIdent i
  | setGate g o => exact moves_slotSetGate g o
  | setLock l => exact moves_slotSetLock l
  | sendLineReset p => exact moves_slotSendLineReset p
  | writeEntry i r => exact moves_slotWriteEntry i r
  | freeEntry i => exact moves_slotFreeEntry i
  | armEntry i => exact moves_slotArmEntry i
  | suspendEntry i => exact moves_slotSuspendEntry i
  | tuneEntry i r => exact moves_slotTuneEntry i r
  | stepScale i d => exact moves_slotStepScale i d
  | findEntry p i => rw [runSlot, slotFindEntry_state]
  | readCounters k t c => exact moves_slotReadCounters k t c
  | readLapses => exact moves_slotReadLapses
  | readDiverted => exact moves_slotReadDiverted

/-! ### The management unit -/

theorem moves_execute (req : Request) : Moves (h, s) (h, s.execute req) := by
  unfold State.execute
  split
  · unfold State.runBulkLoad
    split
    · exact moves_finish _
    · exact moves_modMgmt _
  · exact (moves_runSlot _).trans (moves_finish _)

theorem moves_moveUp : Moves (h, s) (h, s.moveUp) := by
  unfold State.moveUp
  split
  · exact (moves_modMgmt _).trans (moves_execute _)
  · exact .refl

theorem moves_complete (r : Response) : Moves (h, s) (h, s.complete r) :=
  (moves_finish r).trans moves_moveUp

theorem moves_closeLoad (bulk : Request) (st : Status) : Moves (h, s) (h, s.closeLoad bulk st) :=
  (moves_modMgmt _).trans (moves_complete _)

theorem moves_takeLoadData (bulk req : Request) (r : EntryRecord) :
    Moves (h, s) (h, s.takeLoadData bulk req r) := by
  unfold State.takeLoadData
  split
  · exact moves_modMgmt _
  · dsimp only
    split
    next => exact (moves_respondNow _).trans (moves_closeLoad bulk _)
    next e he =>
      split
      · exact (((moves_checkedWrite he).trans (moves_modMgmt _)).trans (moves_respondNow _)).trans
          (moves_closeLoad bulk .done)
      · exact ((moves_checkedWrite he).trans (moves_modMgmt _)).trans (moves_respondNow _)

theorem moves_admitLoadData (req : Request) (r : EntryRecord) :
    Moves (h, s) (h, s.admitLoadData req r) := by
  unfold State.admitLoadData
  split
  · exact moves_takeLoadData _ req r
  · exact moves_respondNow _

theorem moves_abortExecuting : Moves (h, s) (h, s.abortExecuting) := by
  unfold State.abortExecuting
  split
  · exact (moves_modMgmt _).trans (moves_finish _)
  · exact .refl

theorem moves_abortWaiting : Moves (h, s) (h, s.abortWaiting) := by
  unfold State.abortWaiting
  split
  · exact (moves_modMgmt _).trans (moves_respondNow _)
  · exact .refl

theorem moves_dropExecuting : Moves (h, s) (h, s.dropExecuting) := by
  unfold State.dropExecuting
  split
  · exact .refl
  · exact ((moves_modMgmt _).trans (moves_modMgmt _)).trans (moves_respondNow _)
  · exact (moves_modMgmt _).trans (moves_respondNow _)

theorem moves_abortSlots : Moves (h, s) (h, s.abortSlots) :=
  moves_dropExecuting.trans moves_abortWaiting

theorem moves_admitSlot (req : Request) : Moves (h, s) (h, s.admitSlot req) := by
  unfold State.admitSlot
  split
  · exact moves_respondNow _
  · split
    · exact (moves_execute req).trans moves_moveUp
    · exact moves_modMgmt _
    · exact moves_respondNow _

/-- A request at its arrival. Only RESET-WARM needs the hand empty (R202). -/
theorem moves_takeRequest (req : Request) : Moves ([], s) ([], s.takeRequest req) := by
  unfold State.takeRequest
  split
  · exact (moves_abortExecuting.trans moves_abortWaiting).trans (moves_respondNow _)
  · exact (moves_changeMode _ fun _ => rfl).trans (moves_respondNow _)
  · exact (moves_abortSlots.trans (moves_respondNow _)).tail (.warmReset _)
  · exact moves_admitLoadData req _
  · exact moves_admitSlot req

theorem moves_takePayload (tag : Byte) (payload : List Byte) :
    Moves ([], s) ([], s.takePayload tag payload) := by
  unfold State.takePayload
  split
  · exact moves_respondNow _
  · exact moves_takeRequest _

theorem moves_takeCompletion : Moves (h, s) (h, s.takeCompletion) := by
  unfold State.takeCompletion
  split
  · split
    · exact moves_complete _
    · exact .refl
  · exact .refl

theorem moves_takeGapExpiry : Moves (h, s) (h, s.takeGapExpiry) := by
  unfold State.takeGapExpiry
  split
  · split
    · exact moves_closeLoad _ _
    · exact .refl
  · exact .refl

theorem moves_takeEscalation : Moves ([], s) ([], s.takeEscalation) := by
  unfold State.takeEscalation
  split
  · exact ((moves_modMgmt _).trans moves_abortSlots).tail (.warmReset _)
  · exact .refl

/-! ### EOF -/

/-- The hand-off of an intact frame whose buffer is in the hand, at a port in HUNT (R16). -/
theorem moves_handOff {b : BufId} {f : Frame} (p : Port) (hparse : parseFrame s.contents[b] = some f)
    (hup : (s.port p).receiver ≠ .off) : Moves ([b], s) ([], s.handOff p f b) := by
  unfold State.handOff
  split_ifs with hpause hresume
  · exact (moves_release b).trans (moves_hold p (by simpa using hup))
  · exact (moves_release b).trans (moves_unhold p)
  · exact (moves_release b).trans (moves_takePayload f.seq f.payload)
  · exact moves_classify p f ⟨f, hparse, hpause, hresume⟩ hup

theorem moves_takeEof (p : Port) : Moves ([], s) ([], s.takeEof p) := by
  unfold State.takeEof State.endFill
  split
  next b hrecv =>
    split
    next => exact moves_dropFill p hrecv (.inl rfl)
    next f hparse =>
      have hlift : Moves ([], s)
          ([b], (s.count p .intact).modPort p fun ps => ps.setReceiver .hunt) :=
        (moves_count p .intact).tail
          (.lift [] _ p b .hunt (by simpa [State.count] using hrecv) (.inl rfl))
      refine hlift.trans (moves_handOff p (by simpa using hparse) ?_)
      rw [modPort_port_self]
      nofun
  next hrecv => exact moves_setReceiver p (by rw [hrecv]; rfl) (.inl rfl)
  next => exact .refl

/-! ### Every command -/

/-- The rows that act on the reset input and the supply. -/
def isPowerRow : Instr → Bool
  | .coldReset _ | .resetDeasserted | .powerUpStart => true
  | _ => false

theorem setFreezeLow_abandonTraffic (s : State) (p : Port) :
    ({ s with freezeLow := true } : State).abandonTraffic p =
      { s.abandonTraffic p with freezeLow := true } := by
  have hport : ({ s with freezeLow := true } : State).port p = s.port p := by cases p <;> rfl
  unfold State.abandonTraffic
  rw [hport]
  split
  · cases p <;> rfl
  · rfl

theorem setFreezeLow_flushQueues (s : State) (p : Port) :
    ({ s with freezeLow := true } : State).flushQueues p =
      { s.flushQueues p with freezeLow := true } := by
  cases p <;> rfl

theorem setFreezeLow_enterHalted (s : State) :
    ({ s with freezeLow := true } : State).enterHalted =
      { s.enterHalted with freezeLow := true } := by
  simp only [State.enterHalted, setFreezeLow_abandonTraffic, setFreezeLow_flushQueues]

/-- The level of the freeze input takes no part in a mode change. -/
theorem setFreezeLow_changeMode (s : State) (m : RunMode) :
    ({ s with freezeLow := true } : State).changeMode m =
      { s.changeMode m with freezeLow := true } := by
  have hleave : ({ s with freezeLow := true } : State).leaveRun m =
      { s.leaveRun m with freezeLow := true } := by
    unfold State.leaveRun
    dsimp only
    split <;> rfl
  have hpath (u : State) : ({ u with freezeLow := true } : State).haltPath m =
      { u.haltPath m with freezeLow := true } := by
    unfold State.haltPath
    rw [setFreezeLow_enterHalted]
    dsimp only
    split <;> rfl
  have hclear (u : State) : ({ u with freezeLow := true } : State).clearFrozen m =
      { u.clearFrozen m with freezeLow := true } := by
    unfold State.clearFrozen
    dsimp only
    split <;> rfl
  rw [State.changeMode, hleave, hpath, hclear]
  rfl

/-- An assertion of the freeze input at a running part (R200). -/
theorem moves_freeze : Moves (h, s) (h, ({ s with freezeLow := true } : State).freeze) := by
  have hmode : (s.changeMode (.halted .freeze)).mode.isHalted = true := rfl
  rw [State.freeze, setFreezeLow_changeMode]
  exact moves_alerting (((moves_changeMode (.halted .freeze) fun _ => rfl).tail
    (.freezeLevel h _ true fun _ => hmode)).tail (.note h _ _ rfl fun _ => .inr hmode))

/-- Every command of a running part is a sequence of moves. -/
theorem moves_exec {t : State} (row : Instr) (hrun : s.running = true)
    (hpower : isPowerRow row = false) (hexec : exec row s = .next t) : Moves ([], s) ([], t) := by
  have hlive (f : State → State) (hf : Moves ([], s) ([], f s)) : Moves ([], s) ([], s.live f) := by
    rwa [live_of_running s f hrun]
  cases hrow : requestOf row with
  | some request =>
    rw [exec_of_requestOf s hrow] at hexec
    obtain rfl := Host.Outcome.next.inj hexec
    exact hlive _ (moves_takeRequest _)
  | none =>
    cases row
    case coldReset | resetDeasserted | powerUpStart => cases hpower
    all_goals obtain rfl := Host.Outcome.next.inj hexec
    case sof p => exact hlive _ ((moves_symbol p).trans (moves_takeSof p))
    case dataByte p x => exact hlive _ ((moves_symbol p).trans (moves_takeByte p x))
    case eof p => exact hlive _ ((moves_symbol p).trans (moves_takeEof p))
    case abortReceived p => exact hlive _ ((moves_symbol p).trans (moves_takeAbortSymbol p))
    case holdTimerExpiry p => exact hlive _ (moves_takeHoldExpiry p)
    case lineReset p => exact hlive _ (moves_takeBreak p)
    case portDown p => exact hlive _ (moves_takeDown p)
    case portUp p => exact hlive _ (moves_takeUp p)
    case idleReceived p => exact hlive _ (moves_idle p)
    case breakEnd => exact hlive _ (moves_afterBreak .S)
    case spacingEnd p => exact hlive _ (moves_afterSpacing p)
    case transmissionStart p => exact hlive _ (moves_takeStart p)
    case transmissionComplete p =>
      refine hlive _ ?_
      split
      · exact moves_endTx p rfl
      · exact .refl
    case tickExpiry i =>
      exact hlive _ (moves_atCounting i fun e t he hst hmode => moves_takeTick t he hst hmode)
    case lapse i =>
      exact hlive _ (moves_atCounting i fun e t he hst hmode => moves_takeLapse _ he hst hmode)
    case badCommand tag payload => exact hlive _ (moves_takePayload tag payload)
    case commandCompletion => exact hlive _ moves_takeCompletion
    case gapTimerExpiry => exact hlive _ moves_takeGapExpiry
    case escalation => exact hlive _ moves_takeEscalation
    case freezeAsserted =>
      split
      · exact .refl
      · have hrun' : ({ s with freezeLow := true } : State).running = true := hrun
        rw [live_of_running _ _ hrun']
        exact moves_freeze
    case freezeDeasserted => exact .single (.freezeLevel [] s false nofun)
    all_goals cases hrow

end

end Sys2Proof.Machine

/-! SUPPORT. Steps: a running part's commands are moves, a held part's change pins and the start alone. A law
that both keep, every step keeps. -/

namespace Sys2Proof.Machine

/-! ### What is outside the moves -/

/-- The levels of the reset input and the supply, and the command queue. -/
def State.pins (s : State) : Bool × Bool × List Instr := (s.resetLow, s.powered, s.pending)

@[simp] theorem pins_warmReset (s : State) : s.warmReset.pins = s.pins := by
  rw [warmReset_frame]
  rfl

theorem Move.keeps_pins {x y : List BufId × State} (hmove : Move x y) : y.2.pins = x.2.pins := by
  cases hmove with
  | note h s t ht => rw [ht]; rfl
  | warmReset s => exact pins_warmReset s
  | port | claim | store | lift | release | enqueue | mark | sendCyclic | sendAcyclic | endTx
  | emptyQueues | rewrite | write | erase | enlist | disarm => simp [State.pins]
  | divert | undivert | manage | unlist | gate | ident | mode | freezeLevel => rfl

theorem Moves.keeps_pins {x y : List BufId × State} (hmoves : Moves x y) : y.2.pins = x.2.pins :=
  Moves.keeps (P := fun z => z.2.pins = x.2.pins) (fun _ _ hmove hz => hmove.keeps_pins.trans hz)
    hmoves rfl

theorem running_of_pins {s t : State} (h : t.pins = s.pins) : t.running = s.running := by
  obtain ⟨hlow, hpowered, _⟩ : t.resetLow = s.resetLow ∧ t.powered = s.powered ∧
    t.pending = s.pending := by simpa [State.pins] using h
  rw [State.running, State.running, hlow, hpowered]

/-! ### The commands of a held part -/

/-- A held part records the level of the freeze input and ignores every other command but the pins' and
the supply's (R203). -/
theorem exec_of_held {s t : State} (row : Instr) (hheld : s.running = false)
    (hpower : isPowerRow row = false) (hexec : exec row s = .next t) :
    t = { s with freezeLow := t.freezeLow } := by
  have hlive (f : State → State) : s.live f = s := live_of_not_running s f hheld
  cases hrow : requestOf row with
  | some request =>
    rw [exec_of_requestOf s hrow] at hexec
    obtain rfl := Host.Outcome.next.inj hexec
    exact (hlive _).trans (by rw [hlive])
  | none =>
    cases row
    case coldReset | resetDeasserted | powerUpStart => cases hpower
    all_goals obtain rfl := Host.Outcome.next.inj hexec
    case freezeAsserted =>
      split
      · rfl
      · rw [live_of_not_running _ _ (show ({ s with freezeLow := true } : State).running = false from hheld)]
    case freezeDeasserted => rfl
    case sof | dataByte | eof | abortReceived | holdTimerExpiry | lineReset | portDown | portUp
      | idleReceived | breakEnd | spacingEnd | transmissionStart | transmissionComplete | tickExpiry
      | lapse | badCommand | commandCompletion | gapTimerExpiry | escalation => rw [hlive]
    all_goals cases hrow

/-! ### The reading of the freeze input -/

theorem readFreeze_frame (s : State) :
    s.readFreeze =
      { s with
        mode := s.readFreeze.mode
        causes := s.readFreeze.causes
        alertSlot := s.readFreeze.alertSlot
        alertNumber := s.readFreeze.alertNumber } := by
  unfold State.readFreeze
  split
  · rw [setFrozen_frame]
  · rfl

theorem start_frame (s : State) :
    s.start =
      { s with
        mode := s.start.mode
        causes := s.start.causes
        alertSlot := s.start.alertSlot
        alertNumber := s.start.alertNumber } := by
  unfold State.start
  split
  · exact readFreeze_frame s
  · rfl

/-- What the start of a part and its pins can change: everything but these fields stays. -/
def State.SameBlocks (s t : State) : Prop :=
  ∃ resetLow powered freezeLow mode causes alertSlot alertNumber pending,
    t = { s with
      resetLow := resetLow
      powered := powered
      freezeLow := freezeLow
      mode := mode
      causes := causes
      alertSlot := alertSlot
      alertNumber := alertNumber
      pending := pending }

theorem sameBlocks_pending (s : State) (q : List Instr) : s.SameBlocks { s with pending := q } :=
  ⟨_, _, _, _, _, _, _, _, rfl⟩

theorem sameBlocks_freezeLow (s : State) (low : Bool) : s.SameBlocks { s with freezeLow := low } :=
  ⟨_, _, _, _, _, _, _, _, rfl⟩

theorem sameBlocks_start {s t : State} (h : s.SameBlocks t) : s.SameBlocks t.start := by
  obtain ⟨a, b, c, m, k, al, n, q, rfl⟩ := h
  rw [start_frame]
  exact ⟨_, _, _, _, _, _, _, _, rfl⟩

theorem sameBlocks_resetDeasserted (s : State) : s.SameBlocks ({ s with resetLow := false } : State).start :=
  sameBlocks_start ⟨_, _, _, _, _, _, _, _, rfl⟩

theorem sameBlocks_powerUpStart (s : State) : s.SameBlocks ({ s with powered := true } : State).start :=
  sameBlocks_start ⟨_, _, _, _, _, _, _, _, rfl⟩

/-! ### A law that every step keeps -/

section
variable {L : State → Prop} (hcold : ∀ a b c q, L (State.cold a b c q))
  (hblocks : ∀ s t : State, s.SameBlocks t → L s → L t)
  (hmoves : ∀ s t : State, Moves ([], s) ([], t) → L s → L t)
include hcold hblocks hmoves

/-- A law holds after a command if the cold values satisfy it, it speaks only of the blocks that pins leave
alone, and moves keep it. -/
theorem exec_keeps {s t : State} (row : Instr) (hs : L s) (hexec : exec row s = .next t) : L t := by
  cases hpower : isPowerRow row with
  | false =>
    cases hrun : s.running with
    | true => exact hmoves _ _ (moves_exec row hrun hpower hexec) hs
    | false =>
      rw [exec_of_held row hrun hpower hexec]
      exact hblocks _ _ (sameBlocks_freezeLow _ _) hs
  | true =>
    cases row
    case coldReset cause =>
      cases cause <;> (obtain rfl := Host.Outcome.next.inj hexec; exact hcold _ _ _ _)
    case resetDeasserted =>
      obtain rfl := Host.Outcome.next.inj hexec
      split
      · exact hblocks _ _ (sameBlocks_resetDeasserted _) hs
      · exact hs
    case powerUpStart =>
      obtain rfl := Host.Outcome.next.inj hexec
      split
      · exact hs
      · exact hblocks _ _ (sameBlocks_powerUpStart _) hs
    all_goals cases hpower

/-- The same of a step. -/
theorem step_keeps {s t : State} (hs : L s) (hstep : step s = .next t) : L t := by
  unfold step at hstep
  split at hstep
  next => exact Host.Outcome.next.inj hstep ▸ hs
  next row rest _ =>
    exact exec_keeps hcold hblocks hmoves row (hblocks s _ (sameBlocks_pending s rest) hs) hstep

end

/-! ### The laws at the cold values -/

theorem cold_port (a b c : Bool) (q : List Instr) (p : Port) :
    (State.cold a b c q).port p = PortState.cold := by
  cases p <;> rfl

theorem cold_entry (a b c : Bool) (q : List Instr) (i : Byte) : (State.cold a b c q).entry i = none := by
  simp [State.cold, State.entry]

theorem cold_bufferLaw (a b c : Bool) (q : List Instr) : (State.cold a b c q).BufferLaw := by
  refine .of_eq ?_
  change ((allBuffers ++ []) ++ []) ++ [] = allBuffers
  simp only [List.append_nil]

theorem cold_queueLaw (a b c : Bool) (q : List Instr) : (State.cold a b c q).QueueLaw := by
  refine ⟨fun p => ?_, Nat.zero_le _, Nat.zero_le _⟩
  rw [cold_port]
  exact ⟨Nat.zero_le _, Nat.zero_le _⟩

theorem cold_lapseListLaw (a b c : Bool) (q : List Instr) : (State.cold a b c q).LapseListLaw :=
  ⟨Nat.zero_le _, .nil, nofun⟩

theorem cold_keyLaw (a b c : Bool) (q : List Instr) : (State.cold a b c q).KeyLaw := by
  simp [State.KeyLaw, cold_entry]

theorem cold_portLaw (a b c : Bool) (q : List Instr) : (State.cold a b c q).PortLaw := by
  intro p
  rw [cold_port]
  exact ⟨restFlow_flowSound (ps := .cold) defaults_inRange, fun _ => ⟨rfl, rfl, rfl, rfl, rfl, rfl⟩⟩

theorem cold_contentLaw (a b c : Bool) (q : List Instr) : (State.cold a b c q).ContentLaw := by
  refine ⟨nofun, fun buf => ?_⟩
  simp [State.cold]

theorem cold_mgmtLaw (a b c : Bool) (q : List Instr) : (State.cold a b c q).MgmtLaw := by
  have hload : Mgmt.cold.LoadLaw := ⟨by decide, by decide, by decide, rfl, rfl⟩
  exact ⟨hload, ⟨fun _ => rfl, nofun⟩, nofun, nofun, rfl⟩

/-- The mode law of a part that stands at its cold values, held or with the freeze input deasserted. -/
theorem cold_runningModeLaw (a b : Bool) (q : List Instr) : (State.cold a b false q).RunningModeLaw :=
  ⟨nofun, fun i e he => by simp [cold_entry] at he, nofun, nofun⟩

/-! ### Every step keeps the laws -/

/-- Settles O6. -/
theorem stepKeepsEveryBufferInOnePlace : Obligations.StepKeepsEveryBufferInOnePlace := by
  intro s t hs hstep
  refine step_keeps (L := State.BufferLaw) cold_bufferLaw (fun u v huv hu => ?_) (fun u v h hu => ?_) hs
    hstep
  · obtain ⟨_, _, _, _, _, _, _, _, rfl⟩ := huv
    exact hu
  · exact Moves.keeps (P := Accounted) Move.keeps_accounted h hu

/-- Settles O7. -/
theorem stepKeepsQueueCapacities : Obligations.StepKeepsQueueCapacities := by
  intro s t hs hstep
  refine step_keeps (L := State.QueueLaw) cold_queueLaw (fun u v huv hu => ?_) (fun u v h hu => ?_) hs
    hstep
  · obtain ⟨_, _, _, _, _, _, _, _, rfl⟩ := huv
    exact hu
  · exact Moves.keeps (P := fun x => x.2.QueueLaw) (fun _ _ hmove => hmove.keeps_queueLaw) h hu

/-- Settles O8. -/
theorem stepKeepsTheLapseListLaw : Obligations.StepKeepsTheLapseListLaw := by
  intro s t hs hstep
  refine step_keeps (L := State.LapseListLaw) cold_lapseListLaw (fun u v huv hu => ?_)
    (fun u v h hu => ?_) hs hstep
  · obtain ⟨_, _, _, _, _, _, _, _, rfl⟩ := huv
    exact hu
  · exact Moves.keeps (P := fun x => x.2.LapseListLaw) (fun _ _ hmove => hmove.keeps_lapseListLaw) h hu

/-- Settles O9. -/
theorem stepKeepsTheKeyLaw : Obligations.StepKeepsTheKeyLaw := by
  intro s t hs hstep
  refine step_keeps (L := State.KeyLaw) cold_keyLaw (fun u v huv hu => ?_) (fun u v h hu => ?_) hs hstep
  · obtain ⟨_, _, _, _, _, _, _, _, rfl⟩ := huv
    exact hu
  · exact Moves.keeps (P := fun x => x.2.KeyLaw) (fun _ _ hmove => hmove.keeps_keyLaw) h hu

/-- Settles O11. -/
theorem stepKeepsThePortLaw : Obligations.StepKeepsThePortLaw := by
  intro s t hs hstep
  refine step_keeps (L := State.PortLaw) cold_portLaw (fun u v huv hu => ?_) (fun u v h hu => ?_) hs
    hstep
  · obtain ⟨_, _, _, _, _, _, _, _, rfl⟩ := huv
    exact fun p => by cases p <;> [exact hu .N; exact hu .S]
  · exact Moves.keeps (P := fun x => x.2.PortLaw) (fun _ _ hmove => hmove.keeps_portLaw) h hu

/-- Settles O59: the contents are carried along with the law that every buffer is in one place, which says
that a buffer being filled is not one that a queue names. -/
theorem stepKeepsIntactFramesInBuffers : Obligations.StepKeepsIntactFramesInBuffers := by
  intro s t hplaced hs hstep
  refine (step_keeps (L := fun s => s.BufferLaw ∧ s.ContentLaw)
    (fun a b c q => ⟨cold_bufferLaw a b c q, cold_contentLaw a b c q⟩) (fun u v huv hu => ?_)
    (fun u v h hu => ?_) ⟨hplaced, hs⟩ hstep).2
  · obtain ⟨_, _, _, _, _, _, _, _, rfl⟩ := huv
    exact hu
  · exact Moves.keeps (P := fun x => Accounted x ∧ x.2.ContentLaw)
      (fun _ _ hmove hx => ⟨hmove.keeps_accounted _ _ hx.1, hmove.keeps_contentLaw hx.1 hx.2⟩) h hu

/-- The mode law of a running part, apart from its holding in reset. -/
theorem modeLaw_of_running {s : State} (hrun : s.running = true) (hs : s.RunningModeLaw) : s.ModeLaw :=
  ⟨fun hheld => absurd (hheld.symm.trans hrun) nofun, hs.quiet, hs.tracked, hs.frozen,
    fun _ => hs.freeze⟩

theorem runningModeLaw_of_modeLaw {s : State} (hrun : s.running = true) (hs : s.ModeLaw) :
    s.RunningModeLaw :=
  let ⟨_, hquiet, htracked, hfrozen, hfreeze⟩ := hs
  ⟨hquiet, htracked, hfrozen, hfreeze hrun⟩

theorem cold_haltedQuiet (a b c : Bool) (q : List Instr) : (State.cold a b c q).HaltedQuiet := nofun

/-- A part that stands cold, held in reset. -/
theorem cold_modeLaw {a b : Bool} (c : Bool) (q : List Instr) (hheld : (b && !a) = false) :
    (State.cold a b c q).ModeLaw :=
  ⟨fun _ => rfl, nofun, fun i e he => by simp [cold_entry] at he, nofun,
    fun hrun => absurd (hheld.symm.trans hrun) nofun⟩

/-- An asserted freeze input puts a part that starts in HALTED (R203). -/
theorem readFreeze_mode (s : State) :
    s.readFreeze.mode = if s.freezeLow then .halted .freeze else s.mode := by
  unfold State.readFreeze
  cases h : s.freezeLow <;> simp [State.setFrozen]

/-- A part that starts at its cold values reads the freeze input (R203). -/
theorem start_modeLaw (a b c : Bool) (q : List Instr) : (State.cold a b c q).start.ModeLaw := by
  unfold State.start
  split
  next hrun =>
    cases c with
    | false => exact modeLaw_of_running hrun (cold_runningModeLaw a b q)
    | true =>
      have hframe := readFreeze_frame (State.cold a b true q)
      have hhalted : (State.cold a b true q).readFreeze.mode.isHalted = true := by
        rw [readFreeze_mode]
        rfl
      refine modeLaw_of_running ?_ ⟨fun _ p => ?_, fun i e he => ?_, fun _ => hhalted, fun _ => hhalted⟩
      · rw [hframe]
        exact hrun
      · rw [hframe]
        cases p <;> exact ⟨rfl, rfl, rfl⟩
      · rw [hframe] at he
        exact absurd ((cold_entry a b true q i).symm.trans he) nofun
  next hheld => exact cold_modeLaw c q (Bool.eq_false_iff.2 hheld)

/-- The command queue takes no part in the mode law. -/
theorem modeLaw_pending {s : State} (hs : s.ModeLaw) (q : List Instr) :
    ({ s with pending := q } : State).ModeLaw := by
  obtain ⟨hcold, hrest⟩ := hs
  refine ⟨fun hheld => ?_, hrest⟩
  conv_lhs => rw [hcold hheld]
  rfl

/-- A command keeps the mode law. -/
theorem exec_keeps_modeLaw {s t : State} (row : Instr) (hs : s.ModeLaw) (hexec : exec row s = .next t) :
    t.ModeLaw := by
  cases hpower : isPowerRow row with
  | false =>
    cases hrun : s.running with
    | true =>
      have hmoves := moves_exec row hrun hpower hexec
      have hrun' : t.running = true := (running_of_pins hmoves.keeps_pins).trans hrun
      exact modeLaw_of_running hrun' (Moves.keeps (P := fun x => x.2.RunningModeLaw)
        (fun _ _ hmove => hmove.keeps_runningModeLaw) hmoves (runningModeLaw_of_modeLaw hrun hs))
    | false =>
      rw [exec_of_held row hrun hpower hexec, hs.1 hrun]
      exact cold_modeLaw _ _ hrun
  | true =>
    have hheld (c : State) : c.resetLow = true ∨ c.powered = false → c.running = false := by
      rintro (h | h) <;> simp [State.running, h]
    cases row
    case coldReset cause =>
      cases cause <;> (obtain rfl := Host.Outcome.next.inj hexec; apply cold_modeLaw; simp)
    case resetDeasserted =>
      obtain rfl := Host.Outcome.next.inj hexec
      split
      next hlow =>
        rw [hs.1 (hheld s (.inl hlow))]
        exact start_modeLaw _ _ _ _
      next => exact hs
    case powerUpStart =>
      obtain rfl := Host.Outcome.next.inj hexec
      split
      next => exact hs
      next hdown =>
        rw [hs.1 (hheld s (.inr (Bool.eq_false_iff.2 hdown)))]
        exact start_modeLaw _ _ _ _
    all_goals cases hpower

/-- Settles O13: a running part's commands are moves, and a held part stands at its cold values. -/
theorem stepKeepsTheModeLaw : Obligations.StepKeepsTheModeLaw := by
  intro s t hs hstep
  unfold step at hstep
  split at hstep
  next => exact Host.Outcome.next.inj hstep ▸ hs
  next row rest _ => exact exec_keeps_modeLaw row (modeLaw_pending hs rest) hstep

end Sys2Proof.Machine

/-! PROOF. Steps, the command queue and reset (O1 to O5). -/

namespace Sys2Proof.Machine

/-- Settles O1. -/
theorem stepTakesTheFrontCommand : Obligations.StepTakesTheFrontCommand := by
  refine ⟨fun _ _ _ => rfl, fun s hempty => ?_⟩
  rw [step, hempty]

/-- No command raises a fault or is refused. -/
theorem exists_exec_eq_next (c : Instr) (s : State) : ∃ t : State, exec c s = .next t := by
  cases c
  case coldReset cause => cases cause <;> exact ⟨_, rfl⟩
  all_goals exact ⟨_, rfl⟩

@[simp] theorem start_pending (s : State) : s.start.pending = s.pending := by rw [start_frame]

theorem exec_keeps_pending {s t : State} (c : Instr) (hexec : exec c s = .next t) :
    t.pending = s.pending := by
  cases hpower : isPowerRow c with
  | false =>
    cases hrun : s.running with
    | true => exact congrArg (fun pins => pins.2.2) (moves_exec c hrun hpower hexec).keeps_pins
    | false => rw [exec_of_held c hrun hpower hexec]
  | true =>
    cases c
    case coldReset cause => cases cause <;> (obtain rfl := Host.Outcome.next.inj hexec; rfl)
    case resetDeasserted =>
      obtain rfl := Host.Outcome.next.inj hexec
      split
      · exact start_pending _
      · rfl
    case powerUpStart =>
      obtain rfl := Host.Outcome.next.inj hexec
      split
      · rfl
      · exact start_pending _
    all_goals cases hpower

/-- Settles O2. -/
theorem everyCommandAnswersNextAndKeepsTheQueue :
    Obligations.EveryCommandAnswersNextAndKeepsTheQueue := by
  intro c s
  obtain ⟨t, hexec⟩ := exists_exec_eq_next c s
  exact ⟨t, hexec, exec_keeps_pending c hexec⟩

theorem mem_allBuffers (buf : BufId) : buf ∈ allBuffers := List.mem_finRange buf

/-- Settles O3. -/
theorem coldResetLeavesTheColdValues : Obligations.ColdResetLeavesTheColdValues := by
  refine ⟨fun _ => rfl, fun _ => rfl, rfl, fun a b c q => ?_⟩
  have hfree : (State.cold a b c q).free = allBuffers := rfl
  refine ⟨rfl, rfl, rfl, rfl, rfl, cold_entry a b c q, fun g => ?gates, rfl, rfl, rfl, rfl, rfl, rfl, rfl,
    rfl, rfl, ?pool, fun buf => ⟨?free, ?contents⟩, rfl, rfl, fun p => ?ports, rfl⟩
  case gates => simp [State.cold]
  case pool =>
    rw [hfree]
    exact List.length_finRange
  case free =>
    rw [hfree]
    exact mem_allBuffers buf
  case contents => simp [State.cold]
  case ports =>
    rw [cold_port]
    rfl

theorem exec_resetDeasserted_of_low {s : State} (h : s.resetLow = true) :
    exec .resetDeasserted s = .next ({ s with resetLow := false } : State).start :=
  congrArg Host.Outcome.next (if_pos h)

theorem exec_powerUpStart_of_down {s : State} (h : s.powered = false) :
    exec .powerUpStart s = .next ({ s with powered := true } : State).start :=
  congrArg Host.Outcome.next (if_neg (Bool.eq_false_iff.1 h))

theorem start_of_held {s : State} (hheld : s.running = false) : s.start = s := by
  rw [State.start, hheld]
  rfl

theorem start_of_not_frozen {s : State} (hfreeze : s.freezeLow = false) : s.start = s := by
  rw [State.start, State.readFreeze, hfreeze]
  split <;> rfl

/-- A part at its cold values that starts with the freeze input asserted (R197, R203). -/
theorem start_cold_frozen (q : List Instr) :
    (State.cold false true true q).start =
      { State.cold false true true q with
        mode := .halted .freeze
        causes := ⟨false, true, false, false⟩
        alertNumber := 1
        alertSlot := some ⟨4095#12, 1, 2, ⟨false, true, false, false, false, false⟩⟩ } := by
  have hrun : (State.cold false true true q).running = true := rfl
  have hlow : (State.cold false true true q).freezeLow = true := rfl
  rw [State.start, if_pos hrun, State.readFreeze, if_pos hlow]
  exact alerting_of_rise rfl rfl rfl

/-- Settles O4. -/
theorem heldInResetThenStartsByTheFreezeInput : Obligations.HeldInResetThenStartsByTheFreezeInput := by
  refine ⟨fun c s hheld => ?held, fun q => ⟨?_, ?_, rfl⟩, fun q => ⟨?_, ?_⟩, fun f q => ⟨?_, ?_⟩,
    fun s => ⟨fun hhigh => congrArg Host.Outcome.next ?high, fun hgood => congrArg Host.Outcome.next ?good⟩⟩
  case held =>
    have hlive (f : State → State) : s.live f = s := live_of_not_running s f hheld
    cases c
    case coldReset | resetDeasserted | powerUpStart => exact trivial
    case freezeAsserted =>
      refine congrArg Host.Outcome.next ?_
      split
      next hlow => rw [← hlow]
      next => exact live_of_not_running _ _ hheld
    case freezeDeasserted => rfl
    all_goals exact congrArg Host.Outcome.next (hlive _)
  case high =>
    rw [hhigh]
    rfl
  case good =>
    rw [hgood]
    rfl
  · exact (exec_resetDeasserted_of_low rfl).trans (congrArg _ (start_of_not_frozen rfl))
  · exact (exec_powerUpStart_of_down rfl).trans (congrArg _ (start_of_not_frozen rfl))
  · exact (exec_resetDeasserted_of_low rfl).trans (congrArg _ (start_cold_frozen q))
  · exact (exec_powerUpStart_of_down rfl).trans (congrArg _ (start_cold_frozen q))
  · exact (exec_resetDeasserted_of_low rfl).trans (congrArg _ (start_of_held rfl))
  · exact (exec_powerUpStart_of_down rfl).trans (congrArg _ (start_of_held rfl))

/-- Settles O5. -/
theorem resetSatisfiesEveryLaw : Obligations.ResetSatisfiesEveryLaw :=
  ⟨cold_bufferLaw _ _ _ _, cold_contentLaw _ _ _ _, cold_queueLaw _ _ _ _, cold_lapseListLaw _ _ _ _,
    cold_keyLaw _ _ _ _, tableLaw_cold _ _ _ _, cold_portLaw _ _ _ _, cold_mgmtLaw _ _ _ _,
    start_modeLaw false true false []⟩

end Sys2Proof.Machine

/-! PROOF. The management unit's law (O12): its slots, the load phase and HELD. Everything but the unit's own
commands leaves the unit and the held LINK_EVENT alone. -/

namespace Sys2Proof.Machine

/-! ### What the law speaks of -/

/-- The management unit and whether LINK_EVENT is pending. -/
def State.unit (s : State) : Mgmt × Bool := (s.mgmt, s.causes.linkEvent)

theorem mgmtLaw_of_unit {s t : State} (hs : s.MgmtLaw) (h : t.unit = s.unit) : t.MgmtLaw := by
  obtain ⟨hmgmt, hlink⟩ := Prod.mk.inj h
  unfold State.MgmtLaw State.HeldLaw
  rw [hmgmt, hlink]
  exact hs

/-! ### What leaves the unit alone -/

section
variable (s : State)

@[simp] theorem modPort_unit (p : Port) (f : PortState → PortState) : (s.modPort p f).unit = s.unit := by
  simp [State.unit]

@[simp] theorem setEntry_unit (i : Byte) (o : Option Entry) : (s.setEntry i o).unit = s.unit := rfl

/-- A claim's comparison at the alert unit (R193). -/
@[simp] theorem alerting_unit (claim : State → State) : (s.alerting claim).unit = (claim s).unit := by
  simp [State.unit]

theorem takeSof_unit (p : Port) : (s.takeSof p).unit = s.unit := by
  unfold State.takeSof State.claim State.noBuffer
  split
  case h_1 => rfl
  case h_4 => simp [State.unit]
  all_goals split <;> simp [State.unit]

theorem takeByte_unit (p : Port) (x : Byte) : (s.takeByte p x).unit = s.unit := by
  unfold State.takeByte
  split
  · split <;> simp [State.unit]
  · rfl

theorem cutReception_unit (p : Port) (r : Receiver) : (s.cutReception p r).unit = s.unit := by
  unfold State.cutReception
  split <;> simp [State.unit]

theorem takeAbortSymbol_unit (p : Port) : (s.takeAbortSymbol p).unit = s.unit := by
  unfold State.takeAbortSymbol
  split
  · exact cutReception_unit s p _
  · rfl

theorem portEvent_unit (p : Port) (r : Receiver) : (s.portEvent p r).unit = s.unit := by
  refine Eq.trans ?_ (cutReception_unit s p r)
  simp [State.portEvent, State.unit]

theorem takeHoldExpiry_unit (p : Port) : (s.takeHoldExpiry p).unit = s.unit := by
  unfold State.takeHoldExpiry
  split
  · simp [State.unit]
  · rfl

theorem startFrom_unit (p : Port) (src : Source) : (s.startFrom p src).unit = s.unit := by
  cases src
  case control =>
    change (s.startControl p).unit = s.unit
    unfold State.startControl
    split <;> simp [State.unit, State.send]
  case response =>
    change (s.startResponse p).unit = s.unit
    unfold State.startResponse
    split <;> simp [State.unit, State.send]
  case alert =>
    change (s.startAlert p).unit = s.unit
    unfold State.startAlert
    split <;> simp [State.unit, State.send]
  case cyclic =>
    change (s.startCyclic p).unit = s.unit
    unfold State.startCyclic
    split <;> simp [State.unit, State.send]
  case acyclic =>
    change (s.startAcyclic p).unit = s.unit
    unfold State.startAcyclic
    split <;> simp [State.unit, State.send]

theorem takeStart_unit (p : Port) : (s.takeStart p).unit = s.unit := by
  unfold State.takeStart
  split
  · split
    · rfl
    · exact startFrom_unit s p _
  · rfl

theorem enlist_unit (i : Byte) : (s.enlist i).unit = s.unit := by
  refine (alerting_unit s _).trans ?_
  split <;> rfl

theorem takeLapse_unit (i : Byte) (e : Entry) (t : Tracker) : (s.takeLapse i e t).unit = s.unit := by
  unfold State.takeLapse
  dsimp only
  split_ifs <;> simp [enlist_unit]

theorem takeTick_unit (i : Byte) (e : Entry) (t : Tracker) : (s.takeTick i e t).unit = s.unit := by
  unfold State.takeTick
  dsimp only
  split
  · exact takeLapse_unit s i e _
  · rfl

theorem atCounting_unit (i : Byte) {f : Entry → Tracker → State} (hf : ∀ e t, (f e t).unit = s.unit) :
    (s.atCounting i f).unit = s.unit := by
  unfold State.atCounting
  split
  · rfl
  · split
    · rfl
    · split
      · exact hf _ _
      · rfl

/-! ### The classifier -/

theorem sendAcyclic_unit (p : Port) (b : BufId) : (s.sendAcyclic p b).unit = s.unit := by
  simp [State.unit]

theorem sendByClass_unit (p : Port) (cls : StreamClass) (b : BufId) :
    (s.sendByClass p cls b).unit = s.unit := by
  simp [State.unit]

theorem divertFrame_unit (p : Port) (entry : Option Byte) (b : BufId) :
    (s.divertFrame p entry b).unit = s.unit := by
  unfold State.divertFrame
  split <;> simp [State.unit]

theorem miss_unit (p : Port) (b : BufId) : (s.miss p b).unit = s.unit := by
  have hcount : (s.count p .misses).unit = s.unit := by simp [State.unit]
  unfold State.miss
  dsimp only
  split
  · exact (sendAcyclic_unit _ p b).trans hcount
  · exact hcount
  · exact (divertFrame_unit _ p none b).trans hcount

theorem act_unit (p : Port) (i : Byte) (e : Entry) (b : BufId) : (s.act p i e b).unit = s.unit := by
  unfold State.act
  split
  · exact sendByClass_unit _ p e.cls b
  · rfl
  · split
    · exact divertFrame_unit s p _ b
    · exact divertFrame_unit _ p _ b

theorem hit_unit (p : Port) (i : Byte) (e : Entry) (f : Frame) (b : BufId) :
    (s.hit p i e f b).unit = s.unit := by
  unfold State.hit
  split_ifs
  · rfl
  · exact act_unit s p i e b
  · rfl
  · exact act_unit (s.arrival i e f.seq) p i e b

theorem classify_unit (p : Port) (f : Frame) (b : BufId) : (s.classify p f b).unit = s.unit := by
  unfold State.classify
  split
  · exact sendAcyclic_unit s p b
  · simp [State.unit]
  · split
    · exact miss_unit s p b
    · split
      · exact miss_unit s p b
      · exact hit_unit s p _ _ f b

/-! ### The mode and the freeze input -/

theorem changeMode_unit (m : RunMode) : (s.changeMode m).unit = s.unit := by
  unfold State.changeMode State.clearFrozen State.haltPath State.leaveRun
  split_ifs <;> simp [State.unit]

theorem setFrozen_unit : s.setFrozen.unit = s.unit := alerting_unit s _

theorem readFreeze_unit : s.readFreeze.unit = s.unit := by
  unfold State.readFreeze
  split
  · exact setFrozen_unit _
  · rfl

theorem start_unit : s.start.unit = s.unit := by
  unfold State.start
  split
  · exact readFreeze_unit s
  · rfl

end

/-! ### The slot commands -/

section
variable (s : State)

theorem slotWriteEntry_unit (i : Byte) (r : EntryRecord) : (slotWriteEntry i r s).state.unit = s.unit := by
  unfold slotWriteEntry
  split <;> rfl

theorem slotFreeEntry_unit (i : Byte) : (slotFreeEntry i s).state.unit = s.unit := by
  unfold slotFreeEntry
  split
  · rfl
  · split_ifs <;> rfl

theorem slotArmEntry_unit (i : Byte) : (slotArmEntry i s).state.unit = s.unit := by
  unfold slotArmEntry
  split
  · rfl
  · split_ifs <;> rfl

theorem slotSuspendEntry_unit (i : Byte) : (slotSuspendEntry i s).state.unit = s.unit := by
  unfold slotSuspendEntry
  split
  · rfl
  · split_ifs <;> rfl

theorem slotTuneEntry_unit (i : Byte) (r : TuneRecord) : (slotTuneEntry i r s).state.unit = s.unit := by
  unfold slotTuneEntry
  split
  · rfl
  · split
    · rfl
    · split
      · rfl
      · split <;> rfl

theorem slotStepScale_unit (i d : Byte) : (slotStepScale i d s).state.unit = s.unit := by
  unfold slotStepScale
  split
  · rfl
  · split
    · rfl
    · split
      · rfl
      · split
        · rfl
        · split <;> rfl

theorem slotSetGate_unit (g o : Byte) : (slotSetGate g o s).state.unit = s.unit := by
  have hset (k : Fin 8) (x : Gate) : (s.setGate k x).unit = s.unit := by
    unfold State.setGate
    dsimp only
    split <;> simp [State.unit]
  unfold slotSetGate
  split
  · split_ifs
    · rfl
    · rfl
    · exact hset _ _
  · rfl

theorem slotSetMode_unit (m : Byte) : (slotSetMode m s).state.unit = s.unit := by
  unfold slotSetMode
  split
  · rfl
  · split
    · rfl
    · exact changeMode_unit s _

theorem slotSetAlerts_unit (b : Byte) : (slotSetAlerts b s).state.unit = s.unit := by
  unfold slotSetAlerts
  split_ifs
  · rfl
  · rfl
  · exact alerting_unit s _

theorem slotSetIdent_unit (id : Word16) : (slotSetIdent id s).state.unit = s.unit := by
  unfold slotSetIdent
  split
  · rfl
  · split <;> rfl

theorem slotSetLock_unit (l : Byte) : (slotSetLock l s).state.unit = s.unit := by
  unfold slotSetLock
  split
  · rfl
  · split <;> rfl

theorem slotSendLineReset_unit (p : Byte) : (slotSendLineReset p s).state.unit = s.unit := by
  unfold slotSendLineReset
  split <;> rfl

theorem slotReadCounters_unit (k target clear : Byte) :
    (slotReadCounters k target clear s).state.unit = s.unit := by
  unfold slotReadCounters
  split
  next c _ _ => cases c <;> rfl
  next c _ _ =>
    split
    · rfl
    · cases c
      · rfl
      · exact modPort_unit s _ _
  next => rfl

theorem slotReadLapses_unit : (slotReadLapses s).state.unit = s.unit := by
  unfold slotReadLapses
  split <;> rfl

theorem slotReadDiverted_unit : (slotReadDiverted s).state.unit = s.unit := by
  unfold slotReadDiverted
  split <;> rfl

/-- What SET-PORT writes of the unit is the escalation time alone (R184). -/
theorem slotSetPort_unit (a : PortArgs) :
    ∃ esc, (slotSetPort a s).state.unit = ({ s.mgmt with escTime := esc }, s.causes.linkEvent) := by
  unfold slotSetPort
  split
  next p _ _ _ =>
    split
    · exact ⟨s.mgmt.escTime, rfl⟩
    · cases p
      · exact ⟨a.escalation.toNat, rfl⟩
      · exact ⟨s.mgmt.escTime, rfl⟩
  next => exact ⟨s.mgmt.escTime, rfl⟩

end

/-! ### The law in parts -/

/-- What the law asks whatever the executing slot holds. -/
def State.Steady (s : State) : Prop :=
  (s.mgmt.nextIndex ≤ 256 ∧ (1 ≤ s.mgmt.reload ∧ s.mgmt.reload ≤ 256) ∧ s.mgmt.step ≤ 256) ∧
    (∀ req, s.mgmt.waiting = some req →
      isSlotCommand req.cmd = true ∧ (s.mgmt.heldEvent = true → whileHeld req.cmd = true)) ∧
    (s.mgmt.escTimer ≠ none → s.mgmt.heldEvent = true) ∧ s.causes.linkEvent = s.mgmt.heldEvent

/-- No load phase has anything left (R166, R171). -/
def Mgmt.Unloaded (m : Mgmt) : Prop := m.gapTimer = false ∧ m.remaining = 0

/-- The executing slot holds no load phase. -/
def Mgmt.NotLoading (m : Mgmt) : Prop := ∀ req, m.executing ≠ some (.loading req)

theorem steady_of_unit {s t : State} (hs : s.Steady) (h : t.unit = s.unit) : t.Steady := by
  obtain ⟨hmgmt, hlink⟩ := Prod.mk.inj h
  unfold State.Steady
  rw [hmgmt, hlink]
  exact hs

section
variable {s : State}

theorem steady_of_mgmtLaw (hs : s.MgmtLaw) : s.Steady := by
  obtain ⟨⟨hnext, hreload, hstep, _⟩, ⟨_, hwaits⟩, ⟨_, htimer, hlink⟩⟩ := hs
  exact ⟨⟨hnext, hreload, hstep⟩, hwaits, htimer, hlink⟩

theorem unloaded_of_mgmtLaw (hs : s.MgmtLaw) (hexec : s.mgmt.NotLoading) : s.mgmt.Unloaded := by
  obtain ⟨⟨_, _, _, hload⟩, _, _⟩ := hs
  split at hload
  next req h => exact absurd h (hexec req)
  next => exact hload

theorem mgmtLaw_of_notLoading (hs : s.Steady) (hexec : s.mgmt.NotLoading) (hload : s.mgmt.Unloaded)
    (hslots : s.mgmt.executing = none → s.mgmt.waiting = none) : s.MgmtLaw := by
  obtain ⟨⟨hnext, hreload, hstep⟩, hwaits, htimer, hlink⟩ := hs
  refine ⟨⟨hnext, hreload, hstep, ?_⟩, ⟨hslots, hwaits⟩, ⟨fun _ => hexec, htimer, hlink⟩⟩
  split
  next req h => exact absurd h (hexec req)
  next => exact hload

theorem mgmtLaw_of_loading (hs : s.Steady) {req : Request} (hexec : s.mgmt.executing = some (.loading req))
    (hgap : s.mgmt.gapTimer = true) (hremain : 1 ≤ s.mgmt.remaining)
    (hcount : s.mgmt.step + s.mgmt.remaining = s.mgmt.reload)
    (hrange : s.mgmt.nextIndex + s.mgmt.remaining ≤ 256) (hheld : s.mgmt.heldEvent = false) :
    s.MgmtLaw := by
  obtain ⟨⟨hnext, hreload, hstep⟩, hwaits, htimer, hlink⟩ := hs
  refine ⟨⟨hnext, hreload, hstep, ?_⟩, ⟨fun h => absurd (hexec.symm.trans h) nofun, hwaits⟩,
    ⟨fun h => absurd (hheld.symm.trans h) nofun, htimer, hlink⟩⟩
  rw [hexec]
  exact ⟨hgap, hremain, hcount, hrange⟩

/-! ### Responses and slots -/

theorem mgmtLaw_respondNow (hs : s.MgmtLaw) (r : Response) : (s.respondNow r).MgmtLaw := by
  unfold State.respondNow
  split <;> exact hs

theorem steady_respondNow (hs : s.Steady) (r : Response) : (s.respondNow r).Steady := by
  unfold State.respondNow
  split <;> exact hs

theorem steady_finish (hs : s.Steady) (r : Response) : (s.finish r).Steady := by
  unfold State.finish
  split <;> exact hs

theorem unloaded_finish (hload : s.mgmt.Unloaded) (r : Response) : (s.finish r).mgmt.Unloaded := by
  unfold State.finish
  split <;> exact hload

theorem notLoading_finish (r : Response) : (s.finish r).mgmt.NotLoading := by
  unfold State.finish
  split <;> nofun

theorem finish_waiting (r : Response) : (s.finish r).mgmt.waiting = s.mgmt.waiting := by
  unfold State.finish
  split <;> rfl

theorem mgmtLaw_finish (hs : s.Steady) (hload : s.mgmt.Unloaded) (hwait : s.mgmt.waiting = none)
    (r : Response) : (s.finish r).MgmtLaw :=
  mgmtLaw_of_notLoading (steady_finish hs r) (notLoading_finish r) (unloaded_finish hload r) fun _ =>
    (finish_waiting r).trans hwait

/-- Of the management unit a slot command but ACK-EVENT changes the escalation time alone (R163, R184). -/
theorem runSlot_unit {c : Command} (hc : c ≠ .ackEvent) :
    ∃ esc, (runSlot c s).state.unit = ({ s.mgmt with escTime := esc }, s.causes.linkEvent) := by
  have hkeep {t : State} (h : t.unit = s.unit) :
      ∃ esc, t.unit = ({ s.mgmt with escTime := esc }, s.causes.linkEvent) := ⟨s.mgmt.escTime, h⟩
  cases c with
  | identify | readStatus | readAlerts | readEntry | bulkLoad | loadData | abort | halt | resetWarm =>
    exact hkeep rfl
  | ackEvent => exact absurd rfl hc
  | setPort a => exact slotSetPort_unit s a
  | setMode m => exact hkeep (slotSetMode_unit s m)
  | setAlerts e => exact hkeep (slotSetAlerts_unit s e)
  | setIdent i => exact hkeep (slotSetIdent_unit s i)
  | setGate g o => exact hkeep (slotSetGate_unit s g o)
  | setLock l => exact hkeep (slotSetLock_unit s l)
  | sendLineReset p => exact hkeep (slotSendLineReset_unit s p)
  | writeEntry i r => exact hkeep (slotWriteEntry_unit s i r)
  | freeEntry i => exact hkeep (slotFreeEntry_unit s i)
  | armEntry i => exact hkeep (slotArmEntry_unit s i)
  | suspendEntry i => exact hkeep (slotSuspendEntry_unit s i)
  | tuneEntry i r => exact hkeep (slotTuneEntry_unit s i r)
  | stepScale i d => exact hkeep (slotStepScale_unit s i d)
  | findEntry p i =>
    rw [runSlot, slotFindEntry_state]
    exact hkeep rfl
  | readCounters k t c => exact hkeep (slotReadCounters_unit s k t c)
  | readLapses => exact hkeep (slotReadLapses_unit s)
  | readDiverted => exact hkeep (slotReadDiverted_unit s)

theorem runSlot_waiting (c : Command) : (runSlot c s).state.mgmt.waiting = s.mgmt.waiting := by
  by_cases hc : c = .ackEvent
  · rw [hc]
    rfl
  · obtain ⟨esc, h⟩ := runSlot_unit (s := s) hc
    obtain ⟨hmgmt, _⟩ := Prod.mk.inj h
    rw [hmgmt]

theorem steady_runSlot (hs : s.Steady) (hwait : s.mgmt.waiting = none) (hload : s.mgmt.Unloaded)
    (c : Command) :
    (runSlot c s).state.Steady ∧ (runSlot c s).state.mgmt.waiting = none ∧
      (runSlot c s).state.mgmt.Unloaded := by
  by_cases hc : c = .ackEvent
  · obtain ⟨hcontext, _⟩ := hs
    rw [hc]
    exact ⟨⟨hcontext, fun req h => absurd (hwait.symm.trans h) nofun, fun h => absurd rfl h, rfl⟩, hwait,
      hload⟩
  · obtain ⟨esc, h⟩ := runSlot_unit (s := s) hc
    obtain ⟨hmgmt, hlink⟩ := Prod.mk.inj h
    rw [State.Steady, hmgmt, hlink]
    exact ⟨hs, hwait, hload⟩

/-- What a BULK-LOAD that is not refused asks for (R167). -/
theorem bulkPlan_inRange (hs : s.Steady) {start : Word16} {count : Byte} {i n : Nat}
    (hplan : s.bulkPlan start count = some (i, n)) : 1 ≤ n ∧ i + n ≤ 256 := by
  obtain ⟨⟨_, ⟨hreload, _⟩, _⟩, _⟩ := hs
  have hcount : 1 ≤ bulkCount count := by
    unfold bulkCount
    split
    · decide
    next h => exact Nat.one_le_iff_ne_zero.2 fun h0 => h (BitVec.eq_of_toNat_eq h0)
  unfold State.bulkPlan at hplan
  split_ifs at hplan with _ hself hgiven
  · obtain ⟨rfl, rfl⟩ := Prod.mk.inj (Option.some.inj hplan)
    exact ⟨hreload, hself⟩
  · obtain ⟨rfl, rfl⟩ := Prod.mk.inj (Option.some.inj hplan)
    obtain ⟨_, hfits⟩ := hgiven
    exact ⟨hcount, hfits⟩

/-- A request executes in an empty slot, nothing waiting (R152, R167). -/
theorem mgmtLaw_execute (hs : s.Steady) (hload : s.mgmt.Unloaded) (hwait : s.mgmt.waiting = none)
    (req : Request) (hheld : s.mgmt.heldEvent = true → whileHeld req.cmd = true) :
    (s.execute req).MgmtLaw := by
  unfold State.execute
  split
  next start count hcmd =>
    unfold State.runBulkLoad
    split
    next => exact mgmtLaw_finish hs hload hwait _
    next i n hplan =>
      obtain ⟨hn, hrange⟩ := bulkPlan_inRange hs hplan
      obtain ⟨_, hwaits, htimer, hlink⟩ := hs
      have hfree : s.mgmt.heldEvent = false := by
        refine Bool.eq_false_iff.2 fun h => ?_
        have := hheld h
        rw [hcmd] at this
        cases this
      exact mgmtLaw_of_loading (s := s.startLoad req i n)
        ⟨⟨show i ≤ 256 by omega, ⟨hn, show n ≤ 256 by omega⟩, Nat.zero_le _⟩, hwaits, htimer, hlink⟩ rfl
        rfl hn (Nat.zero_add n) hrange hfree
  next =>
    obtain ⟨hs', hwait', hload'⟩ := steady_runSlot hs hwait hload req.cmd
    exact mgmtLaw_finish hs' hload' hwait' _

/-- The waiting request follows the one that completed (R152). -/
theorem mgmtLaw_moveUp (hs : s.Steady) (hexec : s.mgmt.NotLoading) (hload : s.mgmt.Unloaded) :
    s.moveUp.MgmtLaw := by
  unfold State.moveUp
  split
  next req hnone hsome =>
    obtain ⟨hcontext, hwaits, htimer, hlink⟩ := hs
    obtain ⟨_, hheld⟩ := hwaits req hsome
    exact mgmtLaw_execute (s := s.modMgmt fun m => { m with waiting := none })
      ⟨hcontext, nofun, htimer, hlink⟩ hload rfl req hheld
  next hno =>
    refine mgmtLaw_of_notLoading hs hexec hload fun hnone => ?_
    cases hw : s.mgmt.waiting with
    | none => rfl
    | some req => exact absurd hw (hno req hnone)

/-- With nothing waiting behind an empty slot nothing moves up (R152). -/
theorem moveUp_of_mgmtLaw (hs : s.MgmtLaw) : s.moveUp = s := by
  obtain ⟨_, ⟨hslots, _⟩, _⟩ := hs
  unfold State.moveUp
  split
  next req hnone hsome => exact absurd ((hslots hnone).symm.trans hsome) nofun
  next => rfl

theorem mgmtLaw_complete (hs : s.Steady) (hload : s.mgmt.Unloaded) (r : Response) :
    (s.complete r).MgmtLaw :=
  mgmtLaw_moveUp (steady_finish hs r) (notLoading_finish r) (unloaded_finish hload r)

/-! ### The bulk load -/

theorem mgmtLaw_closeLoad (hs : s.Steady) (bulk : Request) (st : Status) :
    (s.closeLoad bulk st).MgmtLaw :=
  mgmtLaw_complete (s := s.endLoad st) hs ⟨rfl, rfl⟩ _

theorem mgmtLaw_takeLoadData (hs : s.MgmtLaw) {bulk : Request}
    (hexec : s.mgmt.executing = some (.loading bulk)) (req : Request) (r : EntryRecord) :
    (s.takeLoadData bulk req r).MgmtLaw := by
  have hsteady := steady_of_mgmtLaw hs
  obtain ⟨⟨hnext, hreload, hstep, hload⟩, _, ⟨hheld, _⟩⟩ := id hs
  rw [hexec] at hload
  obtain ⟨hgap, hremain, hcount, hrange⟩ := hload
  have hfree : s.mgmt.heldEvent = false := Bool.eq_false_iff.2 fun h => hheld h bulk hexec
  unfold State.takeLoadData
  split
  · exact hs
  · dsimp only
    split
    next => exact mgmtLaw_closeLoad (steady_respondNow hsteady _) bulk _
    next e _ =>
      have hnew : ((s.setEntry (BitVec.ofNat 8 s.mgmt.nextIndex) (some e)).advanceLoad).Steady := by
        obtain ⟨_, hrest⟩ := hsteady
        exact ⟨⟨show s.mgmt.nextIndex + 1 ≤ 256 by omega, hreload, show s.mgmt.step + 1 ≤ 256 by omega⟩,
          hrest⟩
      split
      next => exact mgmtLaw_closeLoad (steady_respondNow hnew _) bulk _
      next hmore =>
        have hmore : ¬(s.mgmt.remaining - 1 = 0) := hmore
        refine mgmtLaw_respondNow (mgmtLaw_of_loading hnew hexec hgap ?_ ?_ ?_ hfree) _
        · change 1 ≤ s.mgmt.remaining - 1
          omega
        · change s.mgmt.step + 1 + (s.mgmt.remaining - 1) = s.mgmt.reload
          omega
        · change s.mgmt.nextIndex + 1 + (s.mgmt.remaining - 1) ≤ 256
          omega

theorem mgmtLaw_admitLoadData (hs : s.MgmtLaw) (req : Request) (r : EntryRecord) :
    (s.admitLoadData req r).MgmtLaw := by
  unfold State.admitLoadData
  split
  next bulk hexec => exact mgmtLaw_takeLoadData hs hexec req r
  next => exact mgmtLaw_respondNow hs _

/-! ### Admission and the immediate commands -/

theorem notLoading_of_none (h : s.mgmt.executing = none) : s.mgmt.NotLoading := fun _ hl =>
  absurd (h.symm.trans hl) nofun

theorem mgmtLaw_abortWaiting (hs : s.Steady) (hexec : s.mgmt.NotLoading) (hload : s.mgmt.Unloaded) :
    s.abortWaiting.MgmtLaw := by
  unfold State.abortWaiting
  split
  next req _ =>
    obtain ⟨hcontext, _, htimer, hlink⟩ := hs
    exact mgmtLaw_respondNow (mgmtLaw_of_notLoading (s := s.modMgmt fun m => { m with waiting := none })
      ⟨hcontext, nofun, htimer, hlink⟩ hexec hload fun _ => rfl) _
  next hnone => exact mgmtLaw_of_notLoading hs hexec hload fun _ => hnone

theorem mgmtLaw_takeAbort (hs : s.MgmtLaw) (req : Request) : (s.takeAbort req).MgmtLaw := by
  refine mgmtLaw_respondNow ?_ _
  unfold State.abortExecuting
  split
  next bulk _ =>
    have hsteady : s.Steady := steady_of_mgmtLaw hs
    exact mgmtLaw_abortWaiting (steady_finish (s := s.endLoad .aborted) hsteady _)
      (notLoading_finish _) (unloaded_finish (s := s.endLoad .aborted) ⟨rfl, rfl⟩ _)
  next hno => exact mgmtLaw_abortWaiting (steady_of_mgmtLaw hs) hno (unloaded_of_mgmtLaw hs hno)

theorem mgmtLaw_warmReset (s : State) : s.warmReset.MgmtLaw := by
  have hmgmt : s.warmReset.mgmt = s.mgmt.warm s.configLock := by rw [warmReset_frame]; rfl
  refine mgmtLaw_of_notLoading ?_ ?_ ?_ ?_
  · unfold State.Steady
    rw [hmgmt, warmReset_causes]
    exact ⟨⟨Nat.zero_le _, ⟨show 1 ≤ 256 by decide, le_rfl⟩, Nat.zero_le _⟩, nofun,
      fun h => absurd rfl h, rfl⟩
  · rw [hmgmt]
    nofun
  · rw [hmgmt]
    exact ⟨rfl, rfl⟩
  · rw [hmgmt]
    exact fun _ => rfl

theorem mgmtLaw_admitSlot (hs : s.MgmtLaw) (req : Request) (hslot : isSlotCommand req.cmd = true) :
    (s.admitSlot req).MgmtLaw := by
  unfold State.admitSlot
  split
  next => exact mgmtLaw_respondNow hs _
  next hadmit =>
    have hheld (h : s.mgmt.heldEvent = true) : whileHeld req.cmd = true := by
      by_contra hno
      exact hadmit ⟨h, hno⟩
    split
    next hnone =>
      have hexec := notLoading_of_none hnone
      obtain ⟨_, ⟨hslots, _⟩, _⟩ := id hs
      have hlaw := mgmtLaw_execute (steady_of_mgmtLaw hs) (unloaded_of_mgmtLaw hs hexec) (hslots hnone) req
        hheld
      rw [moveUp_of_mgmtLaw hlaw]
      exact hlaw
    next x hsome hnone =>
      obtain ⟨hload, _, hheldLaw⟩ := hs
      refine ⟨hload, ⟨fun h => absurd (hsome.symm.trans h) nofun, fun w hw => ?_⟩, hheldLaw⟩
      obtain rfl := Option.some.inj hw
      exact ⟨hslot, hheld⟩
    next => exact mgmtLaw_respondNow hs _

theorem mgmtLaw_takeRequest (hs : s.MgmtLaw) (req : Request) : (s.takeRequest req).MgmtLaw := by
  unfold State.takeRequest
  split
  next => exact mgmtLaw_takeAbort hs req
  next => exact mgmtLaw_respondNow (mgmtLaw_of_unit hs (changeMode_unit s _)) _
  next => exact mgmtLaw_warmReset _
  next r _ => exact mgmtLaw_admitLoadData hs req r
  next h1 h2 h3 h4 =>
    refine mgmtLaw_admitSlot hs req ?_
    unfold isSlotCommand
    split
    next r h => exact absurd h (h4 r)
    next h => exact absurd h h1
    next h => exact absurd h h2
    next h => exact absurd h h3
    next => rfl

theorem mgmtLaw_takePayload (hs : s.MgmtLaw) (tag : Byte) (payload : List Byte) :
    (s.takePayload tag payload).MgmtLaw := by
  unfold State.takePayload
  split
  · exact mgmtLaw_respondNow hs _
  · exact mgmtLaw_takeRequest hs _

/-! ### The unit's other events -/

theorem mgmtLaw_takeCompletion (hs : s.MgmtLaw) : s.takeCompletion.MgmtLaw := by
  unfold State.takeCompletion
  split
  next r hbuilt =>
    split
    · refine mgmtLaw_complete (steady_of_mgmtLaw hs) (unloaded_of_mgmtLaw hs fun req h => ?_) r
      cases hbuilt.symm.trans h
    · exact hs
  next => exact hs

theorem mgmtLaw_takeGapExpiry (hs : s.MgmtLaw) : s.takeGapExpiry.MgmtLaw := by
  unfold State.takeGapExpiry
  split
  next bulk _ =>
    split
    · exact mgmtLaw_closeLoad (steady_of_mgmtLaw hs) bulk _
    · exact hs
  next => exact hs

theorem mgmtLaw_takeEscalation (hs : s.MgmtLaw) : s.takeEscalation.MgmtLaw := by
  unfold State.takeEscalation
  split
  · exact mgmtLaw_warmReset _
  · exact hs

theorem mgmtLaw_discardHeld (hs : s.MgmtLaw) : s.discardHeld.MgmtLaw := by
  have hsteady := steady_of_mgmtLaw hs
  unfold State.discardHeld
  split
  next bulk _ =>
    obtain ⟨hcontext, _, htimer, hlink⟩ := hsteady
    exact mgmtLaw_of_notLoading ⟨hcontext, nofun, htimer, hlink⟩ nofun ⟨rfl, rfl⟩ fun _ => rfl
  next hno =>
    obtain ⟨hcontext, _, htimer, hlink⟩ := hsteady
    have hload := unloaded_of_mgmtLaw hs hno
    exact mgmtLaw_of_notLoading ⟨hcontext, nofun, htimer, hlink⟩ nofun hload fun _ => rfl

/-- Both slots are empty after what link events discard (R161, R162). -/
theorem discardHeld_slots (s : State) :
    s.discardHeld.mgmt.executing = none ∧ s.discardHeld.mgmt.waiting = none := ⟨rfl, rfl⟩

theorem mgmtLaw_linkEvent (hs : s.MgmtLaw) : s.linkEvent.MgmtLaw := by
  have hlaw := mgmtLaw_discardHeld hs
  unfold State.linkEvent
  split
  · exact hlaw
  · obtain ⟨hexec, hwait⟩ := discardHeld_slots s
    have hload := unloaded_of_mgmtLaw hlaw (notLoading_of_none hexec)
    obtain ⟨hcontext, _⟩ := steady_of_mgmtLaw hlaw
    refine mgmtLaw_of_unit ?_ (alerting_unit _ _)
    exact mgmtLaw_of_notLoading
      ⟨hcontext, fun req h => absurd (hwait.symm.trans h) nofun, fun _ => rfl, rfl⟩
      (notLoading_of_none (s := s.discardHeld) hexec) hload fun _ => hwait

theorem mgmtLaw_linkPart (hs : s.MgmtLaw) (p : Port) : (s.linkPart p).MgmtLaw := by
  cases p
  · exact mgmtLaw_linkEvent hs
  · exact hs

theorem mgmtLaw_takeBreak (hs : s.MgmtLaw) (p : Port) : (s.takeBreak p).MgmtLaw := by
  unfold State.takeBreak
  split
  · exact mgmtLaw_of_unit hs (modPort_unit s p _)
  · split
    · exact hs
    · exact mgmtLaw_linkPart (mgmtLaw_of_unit hs ((portEvent_unit _ p _).trans (by simp [State.unit]))) p

theorem mgmtLaw_takeDown (hs : s.MgmtLaw) (p : Port) : (s.takeDown p).MgmtLaw := by
  unfold State.takeDown
  split
  · exact mgmtLaw_linkPart (mgmtLaw_of_unit hs ((portEvent_unit _ p _).trans (by simp [State.unit]))) p
  · exact hs

theorem mgmtLaw_handOff (hs : s.MgmtLaw) (p : Port) (f : Frame) (b : BufId) :
    (s.handOff p f b).MgmtLaw := by
  unfold State.handOff
  split_ifs
  · exact mgmtLaw_of_unit hs (modPort_unit _ p _)
  · exact mgmtLaw_of_unit hs (modPort_unit _ p _)
  · exact mgmtLaw_takePayload (s := s.release b) hs f.seq f.payload
  · exact mgmtLaw_of_unit hs (classify_unit s p f b)

theorem mgmtLaw_takeEof (hs : s.MgmtLaw) (p : Port) : (s.takeEof p).MgmtLaw := by
  unfold State.takeEof State.endFill
  split
  next b _ =>
    split
    · exact mgmtLaw_of_unit hs (by simp [State.unit])
    · exact mgmtLaw_handOff (mgmtLaw_of_unit hs (by simp [State.unit])) p _ b
  next => exact mgmtLaw_of_unit hs (modPort_unit s p _)
  next => exact hs

/-! ### Every command -/

theorem mgmtLaw_live (hs : s.MgmtLaw) {f : State → State} (hf : (f s).MgmtLaw) : (s.live f).MgmtLaw := by
  unfold State.live
  split
  · exact hf
  · exact hs

theorem exec_keeps_mgmtLaw {t : State} (row : Instr) (hs : s.MgmtLaw) (hexec : exec row s = .next t) :
    t.MgmtLaw := by
  have hkeep {f : State → State} (hf : (f s).unit = s.unit) : (s.live f).MgmtLaw :=
    mgmtLaw_live hs (mgmtLaw_of_unit hs hf)
  have hsymbol (p : Port) : (s.modPort p PortState.symbol).MgmtLaw :=
    mgmtLaw_of_unit hs (modPort_unit s p _)
  cases hrow : requestOf row with
  | some request =>
    rw [exec_of_requestOf s hrow] at hexec
    obtain rfl := Host.Outcome.next.inj hexec
    exact mgmtLaw_live hs (mgmtLaw_takeRequest hs _)
  | none =>
    cases row
    case coldReset cause =>
      cases cause <;> (obtain rfl := Host.Outcome.next.inj hexec; exact cold_mgmtLaw _ _ _ _)
    all_goals obtain rfl := Host.Outcome.next.inj hexec
    case resetDeasserted =>
      split
      · exact mgmtLaw_of_unit hs (start_unit _)
      · exact hs
    case powerUpStart =>
      split
      · exact hs
      · exact mgmtLaw_of_unit hs (start_unit _)
    case sof p => exact mgmtLaw_live hs (mgmtLaw_of_unit (hsymbol p) (takeSof_unit _ p))
    case dataByte p x => exact mgmtLaw_live hs (mgmtLaw_of_unit (hsymbol p) (takeByte_unit _ p x))
    case eof p => exact mgmtLaw_live hs (mgmtLaw_takeEof (hsymbol p) p)
    case abortReceived p => exact mgmtLaw_live hs (mgmtLaw_of_unit (hsymbol p) (takeAbortSymbol_unit _ p))
    case holdTimerExpiry p => exact hkeep (takeHoldExpiry_unit s p)
    case lineReset p => exact mgmtLaw_live hs (mgmtLaw_takeBreak hs p)
    case portDown p => exact mgmtLaw_live hs (mgmtLaw_takeDown hs p)
    case portUp p => exact hkeep (modPort_unit s p _)
    case idleReceived p => exact hkeep (modPort_unit s p _)
    case breakEnd => exact hkeep (modPort_unit s .S _)
    case spacingEnd p => exact hkeep (modPort_unit s p _)
    case transmissionStart p => exact hkeep (takeStart_unit s p)
    case transmissionComplete p =>
      refine hkeep ?_
      split
      · simp [State.unit]
      · rfl
    case tickExpiry i => exact hkeep (atCounting_unit s i fun e t => takeTick_unit s i e t)
    case lapse i => exact hkeep (atCounting_unit s i fun e t => takeLapse_unit s i e _)
    case badCommand tag payload => exact mgmtLaw_live hs (mgmtLaw_takePayload hs tag payload)
    case commandCompletion => exact mgmtLaw_live hs (mgmtLaw_takeCompletion hs)
    case gapTimerExpiry => exact mgmtLaw_live hs (mgmtLaw_takeGapExpiry hs)
    case escalation => exact mgmtLaw_live hs (mgmtLaw_takeEscalation hs)
    case freezeAsserted =>
      split
      · exact hs
      · refine mgmtLaw_live (s := { s with freezeLow := true }) hs (mgmtLaw_of_unit hs ?_)
        exact (setFrozen_unit _).trans (changeMode_unit _ _)
    case freezeDeasserted => exact hs
    all_goals cases hrow

end

/-- Settles O12. -/
theorem stepKeepsTheManagementLaw : Obligations.StepKeepsTheManagementLaw := by
  intro s t hs hstep
  unfold step at hstep
  split at hstep
  next => exact Host.Outcome.next.inj hstep ▸ hs
  next row rest _ => exact exec_keeps_mgmtLaw (s := { s with pending := rest }) row hs hstep

end Sys2Proof.Machine

/-! PROOF. The receivers after SOF (R8, R11 to R16): EOF, data bytes, ABORT, IDLE and UP (O17 to O19). -/

namespace Sys2Proof.Machine

/-- What a running part does live. -/
theorem next_live {s : State} (hrun : s.running = true) (f : State → State) :
    (.next (s.live f) : Out) = .next (f s) :=
  congrArg Host.Outcome.next (live_of_running s f hrun)

/-! ### The test at EOF -/

theorem kind_ofCode_eq_none_iff (n : Nat) : Kind.ofCode n = none ↔ ¬(1 ≤ n ∧ n ≤ 7) := by
  unfold Kind.ofCode
  split
  case h_8 =>
    simp only [imp_false] at *
    exact iff_of_true trivial (by omega)
  all_goals exact iff_of_false nofun (by omega)

/-- The check behind the other bytes (R5). -/
theorem withCheck_take_eq_iff (bs : List Byte) (n : Nat) :
    withCheck (bs.take n) = bs ↔ be16 (crc (bs.take n)) = bs.drop n := by
  conv_lhs => rhs; rw [← List.take_append_drop n bs]
  rw [withCheck, List.append_right_inj]

/-- Five bytes are there, or fewer are. -/
theorem header_or_short (bs : List Byte) :
    (∃ b0 b1 b2 sq ln rest, bs = b0 :: b1 :: b2 :: sq :: ln :: rest) ∨ bs.length < 5 :=
  match bs with
  | b0 :: b1 :: b2 :: sq :: ln :: rest => .inl ⟨b0, b1, b2, sq, ln, rest, rfl⟩
  | [] | [_] | [_, _] | [_, _, _] | [_, _, _, _] => .inr (by simp)

theorem parseFrame_of_short {bs : List Byte} (h : bs.length < 5) : parseFrame bs = none := by
  unfold parseFrame
  split
  next b0 b1 b2 sq ln rest =>
    simp only [List.length_cons] at h
    omega
  next => rfl

/-- The test at EOF once the header is there (R14). -/
theorem parseFrame_of_header {b0 b1 b2 sq ln : Byte} {rest bs : List Byte}
    (hbs : bs = b0 :: b1 :: b2 :: sq :: ln :: rest) : parseFrame bs = none ↔
      ¬(1 ≤ b0.toNat / 16 ∧ b0.toNat / 16 ≤ 7) ∨ 240 < ln.toNat ∨ rest.length ≠ ln.toNat + 2 ∨
        be16 (crc (bs.take (bs.length - 2))) ≠ bs.drop (bs.length - 2) := by
  have htake := withCheck_take_eq_iff bs (bs.length - 2)
  rw [← kind_ofCode_eq_none_iff]
  subst hbs
  unfold parseFrame
  dsimp only
  split
  next hkind => simp [hkind]
  next k hkind =>
    rw [hkind]
    split_ifs with hlong hlength hcheck
    · exact iff_of_true rfl (.inr (.inl hlong))
    · exact iff_of_true rfl (.inr (.inr (.inl hlength)))
    · exact iff_of_true rfl (.inr (.inr (.inr fun h => hcheck (htake.2 h))))
    · refine iff_of_false nofun ?_
      rintro (h | h | h | h)
      · cases h
      · exact hlong h
      · exact hlength h
      · exact hcheck fun heq => h (htake.1 heq)

/-- The five tests (R14), by what each asks of the stored bytes. -/
theorem parseFrame_eq_none_iff (bs : List Byte) : parseFrame bs = none ↔
    bs.length < 7 ∨ ¬(1 ≤ (bs.getD 0 0).toNat / 16 ∧ (bs.getD 0 0).toNat / 16 ≤ 7) ∨
      240 < (bs.getD 4 0).toNat ∨ bs.length ≠ 7 + (bs.getD 4 0).toNat ∨
      be16 (crc (bs.take (bs.length - 2))) ≠ bs.drop (bs.length - 2) := by
  rcases header_or_short bs with ⟨b0, b1, b2, sq, ln, rest, rfl⟩ | hshort
  · rw [parseFrame_of_header rfl]
    have hlength : (b0 :: b1 :: b2 :: sq :: ln :: rest).length = rest.length + 5 := rfl
    have hkind : (b0 :: b1 :: b2 :: sq :: ln :: rest).getD 0 0 = b0 := rfl
    have hln : (b0 :: b1 :: b2 :: sq :: ln :: rest).getD 4 0 = ln := rfl
    have hcount : rest.length ≠ ln.toNat + 2 ↔ rest.length + 5 ≠ 7 + ln.toNat := by omega
    have hshort : rest.length + 5 < 7 → rest.length + 5 ≠ 7 + ln.toNat := by omega
    rw [hkind, hln, hlength, hcount]
    tauto
  · exact iff_of_true (parseFrame_of_short hshort) (.inl (by omega))

/-! ### EOF -/

/-- A running part takes EOF as a valid symbol and then by the receiver's state (R1, R14). -/
theorem exec_eof_of_running {s : State} (p : Port) (hrun : s.running = true) :
    exec (.eof p) s = .next ((s.modPort p PortState.symbol).takeEof p) :=
  next_live hrun _

/-- EOF ends the frame in reception with the bytes its buffer holds (R14). -/
theorem exec_eof_of_filling {s : State} {p : Port} {b : BufId} (h : s.Filling p b) :
    exec (.eof p) s = .next ((s.modPort p PortState.symbol).endFill p b) := by
  obtain ⟨hrun, hrecv⟩ := h
  rw [exec_eof_of_running p hrun, State.takeEof, receiver_modPort_symbol, hrecv]

theorem exec_eof_errored {s : State} {p : Port} {b : BufId} (h : s.Filling p b)
    (hparse : parseFrame s.contents[b] = none) :
    exec (.eof p) s =
      .next ({ s with free := b :: s.free }.modPort p fun ps =>
        { ps with
          receiver := .hunt
          upCount := 0
          breakTaken := false
          counters := { ps.counters with errored := satInc ps.counters.errored } }) := by
  rw [exec_eof_of_filling h, State.endFill, modPort_contents, hparse]
  cases p <;> rfl

/-- An intact frame is counted, and its buffer handed on (R14, R16). -/
theorem exec_eof_intact {s : State} {p : Port} {b : BufId} {f : Frame} (h : s.Filling p b)
    (hparse : parseFrame s.contents[b] = some f) :
    exec (.eof p) s = .next ((s.received p).handOff p f b) := by
  rw [exec_eof_of_filling h, State.endFill, modPort_contents, hparse]
  cases p <;> rfl

theorem exec_eof_of_skip {s : State} {p : Port} (hrun : s.running = true)
    (hrecv : (s.port p).receiver = .skip) :
    exec (.eof p) s =
      .next (s.modPort p fun ps =>
        { ps with receiver := .hunt, upCount := 0, breakTaken := false }) := by
  rw [exec_eof_of_running p hrun, State.takeEof, receiver_modPort_symbol, hrecv]
  dsimp only
  rw [modPort_modPort]
  rfl

/-- With no frame in progress EOF is ignored beyond the valid symbol (R11). -/
theorem exec_eof_of_hunt_or_off {s : State} {p : Port} (hrun : s.running = true)
    (hrecv : (s.port p).receiver = .hunt ∨ (s.port p).receiver = .off) :
    exec (.eof p) s = .next (s.modPort p PortState.symbol) := by
  rw [exec_eof_of_running p hrun, State.takeEof, receiver_modPort_symbol]
  rcases hrecv with h | h <;> rw [h]

/-- The hand-off of traffic (R16). -/
theorem handOff_of_traffic {s : State} {p : Port} {f : Frame} (b : BufId) (hpause : f.kind ≠ .pause)
    (hresume : f.kind ≠ .resume) (hown : s.ownRequest p f = false) :
    s.handOff p f b = s.classify p f b := by
  rw [State.handOff, if_neg hpause, if_neg hresume, hown]
  rfl

theorem ownRequest_received (s : State) (p : Port) (f : Frame) :
    (s.received p).ownRequest p f = s.ownRequest p f := by
  simp [State.ownRequest, State.received]

/-- Traffic goes to the classifier with its buffer (R16). -/
theorem exec_eof_of_traffic {s : State} {p : Port} {b : BufId} {f : Frame} (h : s.HoldsTraffic p b f) :
    exec (.eof p) s = .next ((s.received p).classify p f b) := by
  obtain ⟨hfill, hparse, hpause, hresume, hown⟩ := h
  rw [exec_eof_intact hfill hparse,
    handOff_of_traffic b hpause hresume (by rw [ownRequest_received, hown])]

/-- Settles O17. -/
theorem eofTestsAndHandsOn : Obligations.EofTestsAndHandsOn := by
  refine ⟨parseFrame_eq_none_iff, fun s p b h hparse => exec_eof_errored h hparse,
    fun s p b f h hparse => ⟨fun hkind => ?pause, fun hkind => ?resume, fun hkind hp hid => ?own⟩,
    fun s p b f h => exec_eof_of_traffic h,
    fun s p hrun => ⟨exec_eof_of_skip hrun, exec_eof_of_hunt_or_off hrun⟩⟩
  all_goals rw [exec_eof_intact h hparse, State.handOff]
  case pause =>
    rw [if_pos hkind]
    cases p <;> rfl
  case resume =>
    rw [if_neg (by rw [hkind]; decide), if_pos hkind]
    cases p <;> rfl
  case own =>
    have hown : s.ownRequest p f = true := by simp [State.ownRequest, hkind, hp, hid]
    rw [if_neg (by rw [hkind]; decide), if_neg (by rw [hkind]; decide), ownRequest_received, if_pos hown]
    cases p <;> rfl

/-! ### Data bytes and ABORT -/

theorem exec_dataByte_of_running {s : State} (p : Port) (x : Byte) (hrun : s.running = true) :
    exec (.dataByte p x) s = .next ((s.modPort p PortState.symbol).takeByte p x) :=
  next_live hrun _

theorem exec_abortReceived_of_running {s : State} (p : Port) (hrun : s.running = true) :
    exec (.abortReceived p) s = .next ((s.modPort p PortState.symbol).takeAbortSymbol p) :=
  next_live hrun _

theorem exec_dataByte_stored {s : State} {p : Port} {b : BufId} (x : Byte) (h : s.Filling p b)
    (hlength : s.contents[b].length < 247) :
    exec (.dataByte p x) s =
      .next ({ s with contents := s.contents.set b (s.contents[b] ++ [x]) }.modPort p fun ps =>
        { ps with upCount := 0, breakTaken := false }) := by
  obtain ⟨hrun, hrecv⟩ := h
  rw [exec_dataByte_of_running p x hrun, State.takeByte, receiver_modPort_symbol, hrecv]
  dsimp only
  rw [modPort_contents, if_pos (show s.contents[b].length < Config.maxFrameBytes from hlength)]
  cases p <;> rfl

/-- The 248th byte (R13). -/
theorem exec_dataByte_overlong {s : State} {p : Port} {b : BufId} (x : Byte) (h : s.Filling p b)
    (hlength : 247 ≤ s.contents[b].length) :
    exec (.dataByte p x) s =
      .next ({ s with free := b :: s.free }.modPort p fun ps =>
        { ps with
          receiver := .skip
          upCount := 0
          breakTaken := false
          counters := { ps.counters with errored := satInc ps.counters.errored } }) := by
  obtain ⟨hrun, hrecv⟩ := h
  rw [exec_dataByte_of_running p x hrun, State.takeByte, receiver_modPort_symbol, hrecv]
  dsimp only
  rw [modPort_contents, if_neg (show ¬s.contents[b].length < Config.maxFrameBytes from Nat.not_lt.2 hlength)]
  cases p <;> rfl

theorem exec_dataByte_ignored {s : State} {p : Port} (x : Byte) (hrun : s.running = true)
    (hrecv : ∀ b, (s.port p).receiver ≠ .fill b) :
    exec (.dataByte p x) s = .next (s.modPort p PortState.symbol) := by
  rw [exec_dataByte_of_running p x hrun, State.takeByte, receiver_modPort_symbol]
  split
  next b h => exact absurd h (hrecv b)
  next => rfl

theorem takeAbortSymbol_of_up {s : State} {p : Port} (hup : (s.port p).receiver ≠ .off) :
    s.takeAbortSymbol p = s.cutReception p .hunt := by
  rw [State.takeAbortSymbol, if_pos ((isUp_iff _).2 hup)]

theorem takeAbortSymbol_of_off {s : State} {p : Port} (hoff : (s.port p).receiver = .off) :
    s.takeAbortSymbol p = s := by
  rw [State.takeAbortSymbol, (isUp_eq_false_iff _).2 hoff]
  rfl

theorem exec_abortReceived_filling {s : State} {p : Port} {b : BufId} (h : s.Filling p b) :
    exec (.abortReceived p) s =
      .next ({ s with free := b :: s.free }.modPort p fun ps =>
        { ps with
          receiver := .hunt
          upCount := 0
          breakTaken := false
          counters :=
            { ps.counters with
              errored := satInc ps.counters.errored
              aborted := satInc ps.counters.aborted } }) := by
  obtain ⟨hrun, hrecv⟩ := h
  have hsymbol : ((s.modPort p PortState.symbol).port p).receiver = .fill b :=
    (receiver_modPort_symbol s p).trans hrecv
  rw [exec_abortReceived_of_running p hrun, takeAbortSymbol_of_up (by rw [hsymbol]; nofun),
    State.cutReception, hsymbol]
  cases p <;> rfl

theorem exec_abortReceived_idle {s : State} {p : Port} (hrun : s.running = true)
    (hrecv : ∀ b, (s.port p).receiver ≠ .fill b) :
    exec (.abortReceived p) s =
      .next (s.modPort p fun ps =>
        { ps with
          receiver := if ps.receiver = .skip then .hunt else ps.receiver
          upCount := 0
          breakTaken := false }) := by
  rw [exec_abortReceived_of_running p hrun]
  refine congrArg Host.Outcome.next ?_
  have hsymbol := receiver_modPort_symbol s p
  cases hr : (s.port p).receiver with
  | fill b => exact absurd hr (hrecv b)
  | off =>
    rw [takeAbortSymbol_of_off (hsymbol.trans hr)]
    refine modPort_congr p ?_
    simp [PortState.symbol, hr]
  | hunt =>
    rw [takeAbortSymbol_of_up (by rw [hsymbol, hr]; nofun), State.cutReception, hsymbol, hr]
    dsimp only
    rw [modPort_modPort]
    refine modPort_congr p ?_
    simp [PortState.symbol, PortState.setReceiver, hr]
  | skip =>
    rw [takeAbortSymbol_of_up (by rw [hsymbol, hr]; nofun), State.cutReception, hsymbol, hr]
    dsimp only
    rw [modPort_modPort]
    refine modPort_congr p ?_
    simp [PortState.symbol, PortState.setReceiver, hr]

/-- Settles O18. -/
theorem dataByteAndAbortInReception : Obligations.DataByteAndAbortInReception :=
  ⟨⟨fun _ _ _ x h => exec_dataByte_stored x h, fun _ _ _ x h => exec_dataByte_overlong x h,
      fun _ _ x hrun => exec_dataByte_ignored x hrun⟩,
    fun _ _ _ h => exec_abortReceived_filling h, fun _ _ hrun => exec_abortReceived_idle hrun⟩

/-! ### IDLE and UP -/

/-- An IDLE of a DOWN port (R8). -/
theorem idle_of_off {ps : PortState} (hoff : ps.receiver = .off) :
    ps.idle =
      if ps.upCount < 99 then { ps with upCount := ps.upCount + 1, breakTaken := false }
      else { ps with receiver := .hunt, upCount := 0, breakTaken := false } := by
  have hcount : Config.upIdles ≤ ps.upCount + 1 ↔ ¬ps.upCount < 99 := by
    change 100 ≤ ps.upCount + 1 ↔ ¬ps.upCount < 99
    omega
  rw [PortState.idle, (isUp_eq_false_iff ps).2 hoff]
  simp only [hcount, ite_not, Bool.false_eq_true, if_false]
  rfl

theorem idle_of_up {ps : PortState} (hup : ps.receiver ≠ .off) :
    ps.idle = { ps with breakTaken := false } := by
  rw [PortState.idle, (isUp_iff ps).2 hup]
  rfl

theorem takeUp_of_off {ps : PortState} (hoff : ps.receiver = .off) :
    ps.takeUp = { ps with receiver := .hunt, upCount := 0, breakTaken := false } := by
  rw [PortState.takeUp, (isUp_eq_false_iff ps).2 hoff]
  rfl

theorem takeUp_of_up {ps : PortState} (hup : ps.receiver ≠ .off) : ps.takeUp = ps := by
  rw [PortState.takeUp, (isUp_iff ps).2 hup]
  rfl

/-- Settles O19. -/
theorem idleAndPortUpBringAPortUp : Obligations.IdleAndPortUpBringAPortUp := by
  intro s p hrun
  have hidle : exec (.idleReceived p) s = .next (s.modPort p PortState.idle) := next_live hrun _
  have hup : exec (.portUp p) s = .next (s.modPort p PortState.takeUp) := next_live hrun _
  rw [hidle, hup]
  refine ⟨fun hoff => ⟨?_, ?_⟩, fun h => ⟨?_, ?_⟩⟩
  · split
    next hcount =>
      exact congrArg _ (modPort_congr p (by rw [idle_of_off hoff, if_pos hcount]))
    next hcount =>
      exact congrArg _ (modPort_congr p (by rw [idle_of_off hoff, if_neg hcount]))
  · exact congrArg _ (modPort_congr p (takeUp_of_off hoff))
  · exact congrArg _ (modPort_congr p (idle_of_up h))
  · exact congrArg _ (modPort_id p (takeUp_of_up h))

end Sys2Proof.Machine

/-! PROOF. Line events, flow control and the transmitters' ends (R6 to R10, R124, R128, R132, R138 to R147,
R161, R162): O20, O21, O22 and O29. -/

namespace Sys2Proof.Machine

/-! ### A line event at its port -/

section
variable (s : State) (p : Port)

theorem cutReception_port_opp (r : Receiver) : (s.cutReception p r).port p.opp = s.port p.opp := by
  unfold State.cutReception
  split <;> simp [State.count]

theorem cutReception_free (r : Receiver) :
    (s.cutReception p r).free = (s.port p).receiver.bufs ++ s.free := by
  unfold State.cutReception
  cases hr : (s.port p).receiver <;> simp [Receiver.bufs]

theorem cutReception_port_kept (r : Receiver) :
    ((s.cutReception p r).port p).tx = (s.port p).tx ∧
      ((s.cutReception p r).port p).cyclic = (s.port p).cyclic ∧
      ((s.cutReception p r).port p).acyclic = (s.port p).acyclic := by
  unfold State.cutReception
  split <;> simp [State.count, PortState.setReceiver]

/-- The opposite port sees the flush alone (R138, R141). -/
theorem portEvent_port_opp (r : Receiver) :
    (s.portEvent p r).port p.opp = (s.port p.opp).afterFlush := by
  simp [State.portEvent, cutReception_port_opp, drainReport_zero]

/-- The buffers of the port go back to the pool (R117, R131). -/
theorem portEvent_free_perm (r : Receiver) :
    (s.portEvent p r).free.Perm (s.free ++ (s.port p).bufs) := by
  obtain ⟨htx, hcyclic, hacyclic⟩ := cutReception_port_kept s p r
  refine List.perm_iff_count.2 fun a => ?_
  simp only [State.portEvent, modPort_free, flushQueues_free, abandon_port_self, abandon_free,
    cutReception_free, htx, hcyclic, hacyclic, List.count_append, count_bufs]
  omega

theorem cutReception_moves (r : Receiver) :
    ∃ n t f, s.cutReception p r = { s with portN := n, portS := t, free := f } := by
  unfold State.cutReception
  cases p <;> split <;> exact ⟨_, _, _, rfl⟩

theorem abandon_moves : ∃ n t f, s.abandon p = { s with portN := n, portS := t, free := f } := by
  unfold State.abandon
  cases p <;> split <;> exact ⟨_, _, _, rfl⟩

theorem modPort_moves (f : PortState → PortState) :
    ∃ n t l, s.modPort p f = { s with portN := n, portS := t, free := l } := by
  cases p <;> exact ⟨_, _, _, rfl⟩

/-- Nothing changes beyond the ports and the pool. -/
theorem portEvent_moves (r : Receiver) :
    ∃ n t f, s.portEvent p r = { s with portN := n, portS := t, free := f } := by
  unfold State.portEvent
  obtain ⟨n1, t1, f1, h1⟩ := cutReception_moves s p r
  obtain ⟨n2, t2, f2, h2⟩ := abandon_moves (s.cutReception p r) p
  obtain ⟨n3, t3, f3, h3⟩ := flushQueues_moves ((s.cutReception p r).abandon p) p
  obtain ⟨n4, t4, f4, h4⟩ := modPort_moves (((s.cutReception p r).abandon p).flushQueues p) p
    PortState.restFlow
  rw [h4, h3, h2, h1]
  exact ⟨_, _, _, rfl⟩

theorem portEvent_frame (r : Receiver) :
    s.portEvent p r =
      { s with
        portN := (s.portEvent p r).portN
        portS := (s.portEvent p r).portS
        free := (s.portEvent p r).free } := by
  obtain ⟨n, t, f, h⟩ := portEvent_moves s p r
  rw [h]

end

/-! ### The two events -/

/-- The port an event of an UP port has marked and counted. -/
def PortState.marked (ps : PortState) (upCount : Nat) (breakTaken : Bool) (c : PortCounter) : PortState :=
  { ps with upCount := upCount, breakTaken := breakTaken, counters := ps.counters.inc c }

theorem takeLineReset_eq (s : State) (p : Port) :
    s.takeLineReset p =
      ((s.modPort p fun ps => ps.marked ps.upCount true .lineResets).portEvent p .hunt).linkPart p := by
  rw [State.takeLineReset, State.count, modPort_modPort]
  rfl

theorem takeDown_of_up {s : State} {p : Port} (hup : (s.port p).receiver ≠ .off) :
    s.takeDown p =
      ((s.modPort p fun ps => ps.marked 0 ps.breakTaken .downEvents).portEvent p .off).linkPart p := by
  rw [State.takeDown, if_pos ((isUp_iff _).2 hup), State.count, modPort_modPort]
  rfl

theorem takeDown_of_off {s : State} {p : Port} (hoff : (s.port p).receiver = .off) :
    s.takeDown p = s := by
  rw [State.takeDown, (isUp_eq_false_iff _).2 hoff]
  rfl

theorem takeBreak_of_off {s : State} {p : Port} (hoff : (s.port p).receiver = .off) :
    s.takeBreak p = s.modPort p fun ps => { ps with upCount := 0 } := by
  rw [State.takeBreak, (isUp_eq_false_iff _).2 hoff]
  rfl

/-- One line reset a break (R6). -/
theorem takeBreak_of_up {s : State} {p : Port} (hup : (s.port p).receiver ≠ .off) :
    s.takeBreak p = if (s.port p).breakTaken = true then s else s.takeLineReset p := by
  rw [State.takeBreak, (isUp_iff _).2 hup]
  rfl

theorem exec_lineReset_of_running {s : State} (p : Port) (hrun : s.running = true) :
    exec (.lineReset p) s = .next (s.takeBreak p) :=
  next_live hrun _

theorem exec_portDown_of_running {s : State} (p : Port) (hrun : s.running = true) :
    exec (.portDown p) s = .next (s.takeDown p) :=
  next_live hrun _

/-- A line reset of an UP port that has not taken its break. -/
theorem exec_lineReset_taken {s : State} {p : Port} (hrun : s.running = true)
    (hup : (s.port p).receiver ≠ .off) (hbreak : (s.port p).breakTaken = false) :
    exec (.lineReset p) s =
      .next (((s.modPort p fun ps => ps.marked ps.upCount true .lineResets).portEvent p
        .hunt).linkPart p) := by
  rw [exec_lineReset_of_running p hrun, takeBreak_of_up hup, hbreak, if_neg nofun, takeLineReset_eq]

theorem exec_portDown_taken {s : State} {p : Port} (hrun : s.running = true)
    (hup : (s.port p).receiver ≠ .off) :
    exec (.portDown p) s =
      .next (((s.modPort p fun ps => ps.marked 0 ps.breakTaken .downEvents).portEvent p
        .off).linkPart p) := by
  rw [exec_portDown_of_running p hrun, takeDown_of_up hup]

/-- What an event takes of its port is told before or after the marking. -/
theorem marked_afterEvent (ps : PortState) (n : Nat) (taken : Bool) (c : PortCounter) (r : Receiver)
    (hc : c = .lineResets ∨ c = .downEvents) :
    (ps.marked n taken c).afterEvent r =
      { ps.afterEvent r with
        upCount := n
        breakTaken := taken
        counters := (ps.afterEvent r).counters.inc c } := by
  unfold PortState.marked PortState.afterEvent
  rcases hc with rfl | rfl <;> cases ps.receiver <;> rfl

theorem marked_bufs (ps : PortState) (n : Nat) (taken : Bool) (c : PortCounter) :
    (ps.marked n taken c).bufs = ps.bufs := rfl

/-! ### Port S -/

/-- A line event on port S touches the two ports and the pool (R9). -/
theorem lineEvent_S (s : State) (f : PortState → PortState) (r : Receiver)
    (hbufs : (f s.portS).bufs = s.portS.bufs) :
    let t := ((s.modPort .S f).portEvent .S r).linkPart .S
    t = { s with portN := t.portN, portS := t.portS, free := t.free } ∧
      t.free.Perm (s.free ++ s.portS.bufs) ∧ t.portN = s.portN.afterFlush ∧
      t.portS = (f s.portS).afterEvent r := by
  refine ⟨(portEvent_frame _ .S r).trans rfl, ?_, portEvent_port_opp (s.modPort .S f) .S r,
    portEvent_port_self (s.modPort .S f) .S r⟩
  rw [← hbufs]
  exact portEvent_free_perm (s.modPort .S f) .S r

/-- Settles O20. -/
theorem lineEventsOnPortS : Obligations.LineEventsOnPortS := by
  refine ⟨fun s hrun hup hbreak => ?_, fun s hrun hup => ?_, fun s p hrun => ⟨fun hup hbreak => ?_,
    fun hoff => ⟨?_, ?_⟩⟩⟩
  · obtain ⟨hframe, hfree, hN, hS⟩ :=
      lineEvent_S s (fun ps => ps.marked ps.upCount true .lineResets) .hunt (marked_bufs _ _ _ _)
    refine ⟨_, exec_lineReset_taken hrun hup hbreak, hframe, hfree, hN, hS.trans ?_⟩
    rw [marked_afterEvent _ _ _ _ _ (.inl rfl)]
    cases hr : s.portS.receiver <;> simp [PortState.afterEvent, PortCounters.inc, hr]
  · obtain ⟨hframe, hfree, hN, hS⟩ :=
      lineEvent_S s (fun ps => ps.marked 0 ps.breakTaken .downEvents) .off (marked_bufs _ _ _ _)
    refine ⟨_, exec_portDown_taken hrun hup, hframe, hfree, hN, hS.trans ?_⟩
    rw [marked_afterEvent _ _ _ _ _ (.inr rfl)]
    cases hr : s.portS.receiver <;> simp [PortState.afterEvent, PortCounters.inc, hr]
  · rw [exec_lineReset_of_running p hrun, takeBreak_of_up hup, if_pos hbreak]
  · rw [exec_portDown_of_running p hrun, takeDown_of_off hoff]
  · rw [exec_lineReset_of_running p hrun, takeBreak_of_off hoff]

/-! ### Link events -/

theorem discardHeld_frame (s : State) :
    s.discardHeld =
      { s with mgmt := s.discardHeld.mgmt, responses := [], alertSlot := none } := by
  unfold State.discardHeld
  split <;> rfl

/-- A bulk load in its load phase ends; the slots empty (R161). -/
theorem discardHeld_mgmt (s : State) :
    s.discardHeld.mgmt =
      { s.mgmt with
        executing := none
        waiting := none
        remaining := s.discardHeld.mgmt.remaining
        gapTimer := s.discardHeld.mgmt.gapTimer
        lastLoad := s.discardHeld.mgmt.lastLoad
        linkEvents := satInc s.mgmt.linkEvents } := by
  unfold State.discardHeld
  split <;> rfl

theorem discardHeld_of_loading {s : State} {bulk : Request}
    (hload : s.mgmt.executing = some (.loading bulk)) :
    s.discardHeld.mgmt.remaining = 0 ∧ s.discardHeld.mgmt.gapTimer = false ∧
      s.discardHeld.mgmt.lastLoad = some ⟨.aborted, s.mgmt.step, s.mgmt.nextIndex⟩ := by
  unfold State.discardHeld
  split
  next => exact ⟨rfl, rfl, rfl⟩
  next hno => exact absurd hload (hno bulk)

theorem discardHeld_of_notLoading {s : State} (hno : s.mgmt.NotLoading) :
    s.discardHeld.mgmt.remaining = s.mgmt.remaining ∧
      s.discardHeld.mgmt.gapTimer = s.mgmt.gapTimer ∧
      s.discardHeld.mgmt.lastLoad = s.mgmt.lastLoad := by
  unfold State.discardHeld
  split
  next bulk hload => exact absurd hload (hno bulk)
  next => exact ⟨rfl, rfl, rfl⟩

/-- LINK_EVENT set in the pending set (R190). -/
def State.setLinkEvent (s : State) : State := { s with causes := { s.causes with linkEvent := true } }

theorem anyActive_setLinkEvent (s : State) :
    s.setLinkEvent.anyActive = (s.anyActive || s.enables.linkEvent) := by
  rw [Bool.eq_iff_iff, Bool.or_eq_true, anyActive_iff, anyActive_iff]
  simp only [State.setLinkEvent, State.pendingCauses, true_and]
  tauto

theorem linkEvent_of_held {s : State} (hheld : s.mgmt.heldEvent = true) :
    s.linkEvent = s.discardHeld := by
  rw [State.linkEvent, if_pos hheld]

theorem linkEvent_of_not_held {s : State} (hheld : s.mgmt.heldEvent = false) :
    s.linkEvent = (s.discardHeld.modMgmt Mgmt.hold).alerting State.setLinkEvent := by
  rw [State.linkEvent, hheld]
  rfl

/-- What a link event writes outside the ports (R161, R162). -/
theorem linkEvent_frame (s : State) :
    s.linkEvent =
      { s with
        responses := []
        alertSlot := s.linkEvent.alertSlot
        alertNumber := s.linkEvent.alertNumber
        mgmt := s.linkEvent.mgmt
        causes := { s.causes with linkEvent := s.causes.linkEvent || !s.mgmt.heldEvent } } := by
  cases hheld : s.mgmt.heldEvent with
  | true =>
    rw [linkEvent_of_held hheld, discardHeld_frame]
    simp
  | false =>
    rw [linkEvent_of_not_held hheld, alerting_frame, discardHeld_frame]
    simp [State.setLinkEvent, State.modMgmt]

theorem linkEvent_portN (s : State) : s.linkEvent.portN = s.portN := by rw [linkEvent_frame]

theorem linkEvent_free (s : State) : s.linkEvent.free = s.free := by rw [linkEvent_frame]

theorem linkEvent_frame_ports (s : State) :
    s.linkEvent =
      { s with
        portN := s.linkEvent.portN
        free := s.linkEvent.free
        responses := []
        alertSlot := s.linkEvent.alertSlot
        alertNumber := s.linkEvent.alertNumber
        mgmt := s.linkEvent.mgmt
        causes := { s.causes with linkEvent := s.causes.linkEvent || !s.mgmt.heldEvent } } := by
  rw [linkEvent_portN, linkEvent_free]
  exact linkEvent_frame s

/-- HELD and its timer at a link event (R161, R162). -/
theorem linkEvent_mgmt (s : State) :
    s.linkEvent.mgmt =
      { s.discardHeld.mgmt with
        heldEvent := true
        escTimer :=
          if s.mgmt.heldEvent = true ∨ s.mgmt.escTime = 0 then s.mgmt.escTimer
          else some s.mgmt.escTime } := by
  cases hheld : s.mgmt.heldEvent with
  | true =>
    rw [linkEvent_of_held hheld, discardHeld_mgmt]
    simp [hheld]
  | false =>
    rw [linkEvent_of_not_held hheld, alerting_mgmt]
    change Mgmt.hold s.discardHeld.mgmt = _
    rw [Mgmt.hold, discardHeld_mgmt]
    simp

/-- The management unit at a link event, but for what the end of a load phase writes (R161, R162). -/
theorem linkEvent_mgmt_kept (s : State) :
    s.linkEvent.mgmt =
      { s.mgmt with
        executing := none
        waiting := none
        remaining := s.linkEvent.mgmt.remaining
        gapTimer := s.linkEvent.mgmt.gapTimer
        lastLoad := s.linkEvent.mgmt.lastLoad
        heldEvent := true
        escTimer :=
          if s.mgmt.heldEvent = true ∨ s.mgmt.escTime = 0 then s.mgmt.escTimer
          else some s.mgmt.escTime
        linkEvents := satInc s.mgmt.linkEvents } := by
  rw [linkEvent_mgmt, discardHeld_mgmt]

theorem linkEvent_of_loading {s : State} {bulk : Request}
    (hload : s.mgmt.executing = some (.loading bulk)) :
    s.linkEvent.mgmt.remaining = 0 ∧ s.linkEvent.mgmt.gapTimer = false ∧
      s.linkEvent.mgmt.lastLoad = some ⟨.aborted, s.mgmt.step, s.mgmt.nextIndex⟩ := by
  rw [linkEvent_mgmt]
  exact discardHeld_of_loading hload

theorem linkEvent_of_notLoading {s : State} (hno : s.mgmt.NotLoading) :
    s.linkEvent.mgmt.remaining = s.mgmt.remaining ∧ s.linkEvent.mgmt.gapTimer = s.mgmt.gapTimer ∧
      s.linkEvent.mgmt.lastLoad = s.mgmt.lastLoad := by
  rw [linkEvent_mgmt]
  exact discardHeld_of_notLoading hno

/-- The ALERT of a link event: the comparison stands after the discards (R161, R193, R194). -/
theorem linkEvent_alert (s : State) :
    if s.mgmt.heldEvent = false ∧ s.anyActive = false ∧ s.enables.linkEvent = true then
      s.linkEvent.alertNumber = s.alertNumber + 1 ∧
        s.linkEvent.alertSlot =
          some ⟨s.mgmtId, s.alertNumber + 1, 1, { s.pendingCauses with linkEvent := true }⟩
    else s.linkEvent.alertNumber = s.alertNumber ∧ s.linkEvent.alertSlot = none := by
  cases hheld : s.mgmt.heldEvent with
  | true =>
    rw [if_neg (fun h => nomatch h.1), linkEvent_of_held hheld, discardHeld_frame]
    exact ⟨rfl, rfl⟩
  | false =>
    have hsame : (s.discardHeld.modMgmt Mgmt.hold).anyActive = s.anyActive := by
      rw [discardHeld_frame]
      rfl
    have hset : (s.discardHeld.modMgmt Mgmt.hold).setLinkEvent.anyActive =
        (s.anyActive || s.enables.linkEvent) := by
      rw [anyActive_setLinkEvent, hsame, discardHeld_frame]
      rfl
    rw [linkEvent_of_not_held hheld]
    split
    next hrise =>
      obtain ⟨_, hbefore, henabled⟩ := hrise
      rw [alerting_of_rise (hsame.trans hbefore) (by rw [hset, hbefore, henabled]; rfl)
        (by rw [discardHeld_frame]; rfl), discardHeld_frame]
      exact ⟨rfl, rfl⟩
    next hno =>
      have hclaim : (s.discardHeld.modMgmt Mgmt.hold).alerting State.setLinkEvent =
          (s.discardHeld.modMgmt Mgmt.hold).setLinkEvent := by
        cases hbefore : s.anyActive with
        | true => exact alerting_of_active_before (hsame.trans hbefore)
        | false =>
          refine alerting_of_not_active _ _ (hset.trans ?_)
          rw [hbefore, Bool.false_or, Bool.eq_false_iff]
          exact fun henabled => hno ⟨rfl, hbefore, henabled⟩
      rw [hclaim, discardHeld_frame]
      exact ⟨rfl, rfl⟩

/-- A line event on port N, from what its port part leaves (R9, R161). -/
theorem lineEvent_N (s : State) (f : PortState → PortState) (r : Receiver)
    (hbufs : (f s.portN).bufs = s.portN.bufs) :
    let t := ((s.modPort .N f).portEvent .N r).linkPart .N
    t = { s with
          portN := t.portN
          portS := s.portS.afterFlush
          free := t.free
          responses := []
          alertSlot := t.alertSlot
          alertNumber := t.alertNumber
          mgmt := t.mgmt
          causes := { s.causes with linkEvent := s.causes.linkEvent || !s.mgmt.heldEvent } } ∧
      t.free.Perm (s.free ++ s.portN.bufs) ∧ t.portN = (f s.portN).afterEvent r ∧
      t.mgmt =
        { s.mgmt with
          executing := none
          waiting := none
          remaining := t.mgmt.remaining
          gapTimer := t.mgmt.gapTimer
          lastLoad := t.mgmt.lastLoad
          heldEvent := true
          escTimer :=
            if s.mgmt.heldEvent = true ∨ s.mgmt.escTime = 0 then s.mgmt.escTimer
            else some s.mgmt.escTime
          linkEvents := satInc s.mgmt.linkEvents } ∧
      (∀ bulk, s.mgmt.executing = some (.loading bulk) →
        t.mgmt.remaining = 0 ∧ t.mgmt.gapTimer = false ∧
          t.mgmt.lastLoad = some ⟨.aborted, s.mgmt.step, s.mgmt.nextIndex⟩) ∧
      ((∀ bulk, s.mgmt.executing ≠ some (.loading bulk)) →
        t.mgmt.remaining = s.mgmt.remaining ∧ t.mgmt.gapTimer = s.mgmt.gapTimer ∧
          t.mgmt.lastLoad = s.mgmt.lastLoad) ∧
      (if s.mgmt.heldEvent = false ∧ s.anyActive = false ∧ s.enables.linkEvent = true then
        t.alertNumber = s.alertNumber + 1 ∧
          t.alertSlot =
            some ⟨s.mgmtId, s.alertNumber + 1, 1, { s.pendingCauses with linkEvent := true }⟩
      else t.alertNumber = s.alertNumber ∧ t.alertSlot = none) := by
  have hfree := portEvent_free_perm (s.modPort .N f) .N r
  have hN : ((s.modPort .N f).portEvent .N r).portN = _ := portEvent_port_self (s.modPort .N f) .N r
  have hS : ((s.modPort .N f).portEvent .N r).portS = _ := portEvent_port_opp (s.modPort .N f) .N r
  obtain ⟨n, q, l, hevent⟩ := portEvent_moves (s.modPort .N f) .N r
  change
    let t := ((s.modPort .N f).portEvent .N r).linkEvent
    _
  rw [hevent] at hfree hN hS ⊢
  obtain rfl : q = s.portS.afterFlush := hS
  intro t
  let u : State := { s.modPort .N f with portN := n, portS := s.portS.afterFlush, free := l }
  exact ⟨linkEvent_frame_ports u, by rw [← hbufs]; exact (linkEvent_free u).symm ▸ hfree,
    (linkEvent_portN u).trans hN, linkEvent_mgmt_kept u, fun _ h => linkEvent_of_loading (s := u) h,
    fun h => linkEvent_of_notLoading (s := u) h, linkEvent_alert u⟩

/-- Settles O21. -/
theorem lineEventsOnPortNAreLinkEvents : Obligations.LineEventsOnPortNAreLinkEvents := by
  rintro s c hrun hup (⟨rfl, hbreak⟩ | rfl)
  · obtain ⟨hframe, hfree, hN, hrest⟩ :=
      lineEvent_N s (fun ps => ps.marked ps.upCount true .lineResets) .hunt (marked_bufs _ _ _ _)
    refine ⟨_, exec_lineReset_taken hrun hup hbreak, hframe, hfree, hN.trans ?_, hrest⟩
    rw [marked_afterEvent _ _ _ _ _ (.inl rfl), if_neg nofun]
    cases hr : s.portN.receiver <;> simp [PortState.afterEvent, PortCounters.inc, hr]
  · obtain ⟨hframe, hfree, hN, hrest⟩ :=
      lineEvent_N s (fun ps => ps.marked 0 ps.breakTaken .downEvents) .off (marked_bufs _ _ _ _)
    refine ⟨_, exec_portDown_taken hrun hup, hframe, hfree, hN.trans ?_, hrest⟩
    rw [marked_afterEvent _ _ _ _ _ (.inr rfl), if_pos rfl]
    cases hr : s.portN.receiver <;> simp [PortState.afterEvent, PortCounters.inc, hr]

/-! ### Flow control -/

/-- The pause half's answer to a frame in OPEN (R139). -/
theorem frameReport_of_opened {ps : PortState} (hopen : ps.pauseState = .opened) (placed : Placed)
    (depth : Nat) :
    ps.frameReport placed depth =
      if (placed = .queued ∧ ps.settings.upper ≤ depth) ∨ placed = .full then
        { ps with pauseState := .paused, resend := 0, controlSlot := some .pause }
      else ps := by
  rw [PortState.frameReport, hopen]

theorem frameReport_of_paused {ps : PortState} (hpaused : ps.pauseState = .paused) (placed : Placed)
    (depth : Nat) :
    ps.frameReport placed depth =
      if ps.settings.pauseRepeat ≤ ps.resend + 1 then { ps with resend := 0, controlSlot := some .pause }
      else { ps with resend := ps.resend + 1 } := by
  rw [PortState.frameReport, hpaused]

/-- The expiry of a running hold timer, apart from the ports (R146, R193). -/
theorem takeHoldExpiry_frame {s : State} {p : Port} (hheld : (s.port p).holdTimer ≠ none) :
    s.takeHoldExpiry p =
      { s with
        portN := (s.takeHoldExpiry p).portN
        portS := (s.takeHoldExpiry p).portS
        causes := { s.causes with holdExpired := true }
        alertSlot := (s.takeHoldExpiry p).alertSlot
        alertNumber := (s.takeHoldExpiry p).alertNumber } := by
  rw [State.takeHoldExpiry, if_pos (Option.isSome_iff_ne_none.2 hheld), alerting_frame]
  cases p <;> rfl

theorem takeHoldExpiry_port {s : State} {p : Port} (hheld : (s.port p).holdTimer ≠ none) (q : Port) :
    (s.takeHoldExpiry p).port q = ((s.modPort p PortState.unhold).count p .holdExpiries).port q := by
  rw [State.takeHoldExpiry, if_pos (Option.isSome_iff_ne_none.2 hheld), alerting_port]
  cases q <;> rfl

theorem alerted_takeHoldExpiry {s : State} {p : Port} (hheld : (s.port p).holdTimer ≠ none) :
    s.Alerted (s.takeHoldExpiry p) := by
  rw [State.takeHoldExpiry, if_pos (Option.isSome_iff_ne_none.2 hheld)]
  apply alerted_alerting <;> cases p <;> rfl

/-- Settles O22. -/
theorem flowControllerAnswersItsReports : Obligations.FlowControllerAnswersItsReports := by
  refine ⟨fun ps depth => ⟨fun hopen => ?opened, fun hpaused => ?paused⟩, fun s p hrun hheld => ?expiry,
    fun s p hrun hstopped => ?stopped⟩
  case opened =>
    refine ⟨fun placed h => ?_, fun hlow => ?_, ?_, ?_⟩
    · rw [frameReport_of_opened hopen, if_pos h]
    · rw [frameReport_of_opened hopen, if_neg (by simp; omega)]
    · rw [frameReport_of_opened hopen, if_neg (by simp)]
    · rw [PortState.drainReport, hopen, if_neg nofun]
  case paused =>
    refine ⟨fun placed => ⟨fun h => ?_, fun h => ?_⟩, fun h => ?_, fun h => ?_⟩
    · rw [frameReport_of_paused hpaused, if_pos h]
    · rw [frameReport_of_paused hpaused, if_neg (Nat.not_le.2 h)]
    · rw [PortState.drainReport, if_pos ⟨hpaused, h⟩]
    · rw [PortState.drainReport, if_neg fun hlow => absurd hlow.2 (Nat.not_le.2 h)]
  case expiry =>
    refine ⟨s.takeHoldExpiry p, next_live hrun _, takeHoldExpiry_frame hheld, ?_, ?_,
      alerted_takeHoldExpiry hheld⟩
    · rw [takeHoldExpiry_port hheld]
      simp [State.count]
    · rw [takeHoldExpiry_port hheld]
      simp [State.count, PortState.unhold, PortCounters.inc]
  case stopped =>
    refine (next_live hrun _).trans (congrArg _ ?_)
    rw [State.takeHoldExpiry, hstopped]
    rfl

/-! ### The ends of a transmission -/

theorem setTx_eq {ps : PortState} {tx : Tx} (h : tx = ps.tx) : { ps with tx := tx } = ps := by
  rw [h]

theorem afterSpacing_of_not_spacing {tx : Tx} (hno : ∀ k, tx ≠ .spacing k) : tx.afterSpacing = tx := by
  cases tx with
  | spacing k => exact absurd rfl (hno k)
  | ready | sending | brk => rfl

theorem afterBreak_of_ne_brk {tx : Tx} (hno : tx ≠ .brk) : tx.afterBreak = tx := by
  cases tx with
  | brk => exact absurd rfl hno
  | ready | sending | spacing => rfl

/-- Settles O29. -/
theorem transmitterCompletesSpacesAndReadies : Obligations.TransmitterCompletesSpacesAndReadies := by
  have hspacing (s : State) (p : Port) (hrun : s.running = true) : exec (.spacingEnd p) s =
      .next (s.modPort p fun ps => { ps with tx := ps.tx.afterSpacing }) := next_live hrun _
  have hbreak (s : State) (hrun : s.running = true) : exec .breakEnd s =
      .next (s.modPort .S fun ps => { ps with tx := ps.tx.afterBreak }) := next_live hrun _
  refine ⟨fun s p o hrun htx => ?sent, fun s p hrun hidle => ?idle, fun s p k hrun htx => ?spaced,
    fun s p hrun hno => ?notSpacing, fun s hrun htx => ?broken, fun s hrun hno => ?noBreak,
    fun b => ⟨rfl, rfl, fun _ => rfl, fun _ => rfl, fun _ => rfl, fun _ => rfl⟩⟩
  case sent =>
    refine (next_live hrun _).trans (congrArg _ ?_)
    rw [htx, if_pos (show (Tx.sending o).isSending = true from rfl), State.endTx, htx]
    rfl
  case idle =>
    refine (next_live hrun _).trans (congrArg _ ?_)
    cases htx : (s.port p).tx with
    | sending o => exact absurd htx (hidle o)
    | ready | spacing | brk => rfl
  case spaced =>
    rw [hspacing s p hrun]
    exact congrArg _ (modPort_congr p (by rw [htx]; rfl))
  case notSpacing =>
    rw [hspacing s p hrun]
    exact congrArg _ (modPort_id p (setTx_eq (afterSpacing_of_not_spacing hno)))
  case broken =>
    rw [hbreak s hrun]
    refine congrArg _ ((modPort_congr .S (g := fun ps => { ps with tx := .spacing .brk }) ?_).trans rfl)
    simp [State.port, htx, Tx.afterBreak]
  case noBreak =>
    rw [hbreak s hrun]
    exact congrArg _ (modPort_id .S (setTx_eq (afterBreak_of_ne_brk hno)))

end Sys2Proof.Machine

/-! PROOF. Requests and frames as bytes (R2 to R5, R14, R105, R121, R142, R155, R193, R204 to R207): O14, O15
and O30. -/

namespace Sys2Proof.Machine

/-! ### Requests -/

theorem append_of_be16 (w : Word16) : w.extractLsb' 8 8 ++ w.extractLsb' 0 8 = w := by
  refine BitVec.eq_of_getLsbD_eq fun i hi => ?_
  rw [BitVec.getLsbD_append]
  by_cases h : i < 8
  · simp [h]
  · have hsub : 8 + (i - 8) = i := by omega
    simp [h, hsub]
    omega

/-- Reading a payload back (R206): the fields of two bytes are joined again. -/
theorem parseCommand_payload (c : Command) : parseCommand c.payload = some c := by
  have hrecord (r : EntryRecord) : parseEntryRecord r.bytes = some r := by
    change some { r with streamId := r.streamId.extractLsb' 8 8 ++ r.streamId.extractLsb' 0 8 } = some r
    rw [append_of_be16]
  cases c with
  | setIdent i => exact congrArg (fun w => some (Command.setIdent w)) (append_of_be16 i)
  | findEntry p i => exact congrArg (fun w => some (Command.findEntry p w)) (append_of_be16 i)
  | bulkLoad st n => exact congrArg (fun w => some (Command.bulkLoad w n)) (append_of_be16 st)
  | writeEntry i r => exact congrArg (Option.map (Command.writeEntry i)) (hrecord r)
  | loadData r => exact congrArg (Option.map Command.loadData) (hrecord r)
  | identify | readStatus | readAlerts | ackEvent | setMode | setPort | setAlerts | setGate | setLock
  | sendLineReset | readEntry | freeEntry | armEntry | suspendEntry | tuneEntry | stepScale
  | readCounters | readLapses | readDiverted | abort | halt | resetWarm => rfl

/-- A command of each code. -/
def commandSamples : List Command :=
  [.identify, .readStatus, .readAlerts, .ackEvent, .setMode 0, .setPort ⟨0, 0, 0, 0, 0, 0, 0⟩,
    .setAlerts 0, .setIdent 0, .setGate 0 0, .setLock 0, .sendLineReset 0,
    .writeEntry 0 ⟨0, 0, 0, 0, 0, 0, 0, 0, 0, 0, 0, 0, 0, 0, 0⟩, .readEntry 0, .freeEntry 0,
    .armEntry 0, .suspendEntry 0, .tuneEntry 0 ⟨0, 0, 0, 0, 0, 0, 0⟩, .stepScale 0 0, .findEntry 0 0,
    .readCounters 0 0 0, .bulkLoad 0 0, .loadData ⟨0, 0, 0, 0, 0, 0, 0, 0, 0, 0, 0, 0, 0, 0, 0⟩,
    .readLapses, .readDiverted, .abort, .halt, .resetWarm]

/-- A code with a length is the code of some command. -/
theorem requestLength_eq_none_or (code : Byte) :
    requestLength code = none ∨ code ∈ commandSamples.map Command.code := by
  revert code
  decide

/-- Settles O14. -/
theorem everyRequestPayloadReadsBack : Obligations.EveryRequestPayloadReadsBack := by
  refine ⟨highByteFirst, fun _ => rfl, fun c => ⟨?_, parseCommand_payload c, ?_⟩, fun code hno => ?_⟩
  · cases c <;> rfl
  · cases c <;> rfl
  · rcases requestLength_eq_none_or code with h | h
    · exact h
    · obtain ⟨c, _, hc⟩ := List.mem_map.1 h
      exact absurd hc (hno c)

/-! ### Frames -/

theorem kindCodes : KindCodes := ⟨rfl, rfl, rfl, rfl, rfl, rfl, rfl⟩

theorem kind_code_le (k : Kind) : 1 ≤ k.code ∧ k.code ≤ 7 := by
  cases k <;> decide

theorem kind_ofCode_code (k : Kind) : Kind.ofCode k.code = some k := by
  cases k <;> rfl

theorem kind_code_of_ofCode {n : Nat} {k : Kind} (h : Kind.ofCode n = some k) : k.code = n := by
  unfold Kind.ofCode at h
  split at h
  case h_8 => cases h
  all_goals
    obtain rfl := Option.some.inj h
    rfl

/-- The stream id's bytes, high byte first with its upper four bits zero (R2, R205). -/
theorem streamId_high (id : StreamId) :
    (id.setWidth 16).extractLsb' 8 8 = BitVec.ofNat 8 (id.toNat / 256) := by
  refine BitVec.eq_of_toNat_eq ?_
  simp [BitVec.extractLsb'_toNat, Nat.shiftRight_eq_div_pow]
  have := id.isLt
  omega

theorem streamId_low (id : StreamId) : id.extractLsb' 0 8 = BitVec.ofNat 8 id.toNat := by
  refine BitVec.eq_of_toNat_eq ?_
  simp [BitVec.extractLsb'_toNat]

theorem body_eq (f : Frame) :
    f.body =
      [BitVec.ofNat 8 (16 * f.kind.code), BitVec.ofNat 8 (f.streamId.toNat / 256),
        BitVec.ofNat 8 f.streamId.toNat, f.seq, BitVec.ofNat 8 f.payload.length] ++ f.payload := by
  rw [Frame.body, streamId_high, streamId_low]

/-- A stream id's two bytes name it again (R3). -/
theorem streamId_of_bytes (id : StreamId) :
    (((id.setWidth 16).extractLsb' 8 8 ++ id.extractLsb' 0 8) : BitVec 16).setWidth 12 = id := by
  refine BitVec.eq_of_getLsbD_eq fun i hi => ?_
  rw [BitVec.getLsbD_setWidth, BitVec.getLsbD_append]
  by_cases h : i < 8
  · simp [h, hi]
  · have hsub : 8 + (i - 8) = i := by omega
    have hlow : i - 8 < 8 := by omega
    have hwide : i < 16 := by omega
    simp [h, hsub, hi, hlow, hwide]

theorem toNat_kindByte (k : Kind) : (BitVec.ofNat 8 (16 * k.code)).toNat / 16 = k.code := by
  cases k <;> rfl

theorem withCheck_dropLast (body : List Byte) :
    (withCheck body).take ((withCheck body).length - 2) = body := by
  have hlength : (withCheck body).length - 2 = body.length := by
    simp [withCheck, be16]
  rw [hlength, withCheck, List.take_left]

/-- A frame within the payload limit reads back as itself (R3, R14). -/
theorem parseFrame_bytes {f : Frame} (hlength : f.payload.length ≤ 240) :
    parseFrame f.bytes = some f := by
  have hcheck := withCheck_dropLast f.body
  have hln : (BitVec.ofNat 8 f.payload.length).toNat = f.payload.length := by
    rw [BitVec.toNat_ofNat]
    omega
  have hbytes : f.bytes = BitVec.ofNat 8 (16 * f.kind.code) :: (f.streamId.setWidth 16).extractLsb' 8 8 ::
      f.streamId.extractLsb' 0 8 :: f.seq :: BitVec.ofNat 8 f.payload.length ::
        (f.payload ++ be16 (crc f.body)) := rfl
  have hrest : (f.payload ++ be16 (crc f.body)).length = f.payload.length + 2 := by
    simp [be16]
  rw [hbytes, parseFrame, ← hbytes, toNat_kindByte, kind_ofCode_code]
  dsimp only
  rw [hln, if_neg (show ¬Config.maxPayload < f.payload.length from Nat.not_lt.2 hlength), hrest,
    if_neg (by simp), Frame.bytes, hcheck, if_neg (by simp), streamId_of_bytes, List.take_left]

/-- Settles O15. -/
theorem everyFrameReadsBack : Obligations.EveryFrameReadsBack :=
  ⟨kindCodes, highByteFirst, by decide +kernel, fun f => ⟨body_eq f, rfl, parseFrame_bytes⟩⟩

/-! ### What a transmitter sends -/

theorem kindByte_masked (b : Byte) : b &&& 0xF0#8 = BitVec.ofNat 8 (16 * (b.toNat / 16)) := by
  revert b
  decide

theorem lowHalf_masked (b : Byte) : b &&& 0x0F#8 = (b.setWidth 4).setWidth 8 := by
  revert b
  decide

/-- The upper four bits of the stream id field are dropped (R3). -/
theorem streamId_high_of_bytes (b1 b2 : Byte) :
    ((((b1 ++ b2 : BitVec 16).setWidth 12).setWidth 16).extractLsb' 8 8 : Byte) = b1 &&& 0x0F#8 := by
  rw [lowHalf_masked]
  refine BitVec.eq_of_getLsbD_eq fun i hi => ?_
  have hword : 8 + i < 16 := by omega
  have hhalf : 8 + i < 12 ↔ i < 4 := by omega
  rw [BitVec.getLsbD_extractLsb', BitVec.getLsbD_setWidth, BitVec.getLsbD_setWidth, BitVec.getLsbD_append,
    BitVec.getLsbD_setWidth, BitVec.getLsbD_setWidth]
  simp [hi, hword, hhalf]

theorem streamId_low_of_bytes (b1 b2 : Byte) :
    (((b1 ++ b2 : BitVec 16).setWidth 12).extractLsb' 0 8 : Byte) = b2 := by
  refine BitVec.eq_of_getLsbD_eq fun i hi => ?_
  have h12 : i < 12 := by omega
  rw [BitVec.getLsbD_extractLsb', BitVec.getLsbD_setWidth, BitVec.getLsbD_append]
  simp [hi, h12]

/-- What an intact frame's buffer holds (R3, R14). -/
theorem fields_of_parseFrame {bs : List Byte} {f : Frame} (h : parseFrame bs = some f) :
    ∃ b0 b1 b2 ln rest, bs = b0 :: b1 :: b2 :: f.seq :: ln :: rest ∧ f.kind.code = b0.toNat / 16 ∧
      f.streamId = (b1 ++ b2 : BitVec 16).setWidth 12 ∧ f.payload = rest.take ln.toNat ∧
      f.payload.length = ln.toNat ∧ rest.length = ln.toNat + 2 := by
  rcases header_or_short bs with ⟨b0, b1, b2, sq, ln, rest, rfl⟩ | hshort
  · rw [parseFrame] at h
    split at h
    next => cases h
    next k hkind =>
      split_ifs at h with hlong hlength hcheck
      obtain rfl := Option.some.inj h
      have hlength : rest.length = ln.toNat + 2 := not_not.1 hlength
      refine ⟨b0, b1, b2, ln, rest, rfl, kind_code_of_ofCode hkind, rfl, rfl, ?_, hlength⟩
      rw [List.length_take]
      omega
  · rw [parseFrame_of_short hshort] at h
    cases h

/-- An intact buffer holds its frame's bytes but for the bits that the frame drops (R3). -/
theorem exists_of_parseFrame {bs : List Byte} {f : Frame} (h : parseFrame bs = some f) :
    ∃ b0 b1, bs.take (bs.length - 2) =
        b0 :: b1 :: f.streamId.extractLsb' 0 8 :: f.seq :: BitVec.ofNat 8 f.payload.length :: f.payload ∧
      b0 &&& 0xF0#8 = BitVec.ofNat 8 (16 * f.kind.code) ∧
      b1 &&& 0x0F#8 = (f.streamId.setWidth 16).extractLsb' 8 8 := by
  obtain ⟨b0, b1, b2, ln, rest, rfl, hkind, hid, hpayload, hcount, hlength⟩ := fields_of_parseFrame h
  refine ⟨b0, b1, ?_, by rw [kindByte_masked, hkind], by rw [hid, streamId_high_of_bytes]⟩
  rw [hid, streamId_low_of_bytes, hcount, BitVec.ofNat_toNat, BitVec.setWidth_eq, hpayload, List.length_cons,
    List.length_cons, List.length_cons, List.length_cons, List.length_cons, hlength]
  rfl

/-- A frame's bytes as they leave again (R121). -/
theorem resendBytes_of_parseFrame {bs : List Byte} {f : Frame} (h : parseFrame bs = some f) :
    resendBytes bs = f.bytes := by
  obtain ⟨b0, b1, htake, hkind, hid⟩ := exists_of_parseFrame h
  rw [resendBytes, htake]
  dsimp only
  rw [hkind, hid]
  rfl

/-- Settles O30. -/
theorem transmittedFramesAreTheirRules : Obligations.TransmittedFramesAreTheirRules := by
  refine ⟨kindCodes, statusCodes, causeBits, fun contents => ⟨fun m => ?_, ?_, ?_, fun a => ?_,
    fun r hr => ?_, fun b f hf => ?_⟩⟩
  · exact parseFrame_bytes (f := m.frame) (by simp [Marker.frame])
  · exact parseFrame_bytes (f := Control.pause.frame) (by simp [Control.frame])
  · exact parseFrame_bytes (f := Control.resume.frame) (by simp [Control.frame])
  · exact parseFrame_bytes (f := a.frame) (by simp [Alert.frame])
  · refine parseFrame_bytes (f := r.frame) ?_
    simp [Response.frame]
    omega
  · exact ⟨resendBytes_of_parseFrame hf, resendBytes_of_parseFrame hf⟩

end Sys2Proof.Machine

/-! PROOF. The classifier (R28, R42 to R60, R108): O23 to O27. A placement by what it finds, the miss, the
checks of a hit, the arrival and the actions, each on a state; the rows then start from the state that the EOF
of an intact frame leaves. -/

namespace Sys2Proof.Machine

/-! ### Placements -/

theorem placement_eq_down_iff (ps : PortState) (cls : StreamClass) :
    ps.placement cls = .down ↔ ps.receiver = .off := by
  cases cls
  · rw [placement_cyclic]
    split_ifs with h <;> simp [h]
  · rw [placement_acyclic]
    split_ifs with h <;> simp [h]

/-- The capacity and the fill of the queue of a class. -/
theorem placement_eq_full_iff (ps : PortState) (cls : StreamClass) :
    ps.placement cls = .full ↔
      ps.receiver ≠ .off ∧
        (if cls = .cyclic then 32 else 64) ≤
          (if cls = .cyclic then ps.cyclic.length else ps.acyclic.length) := by
  cases cls <;> simp only [if_true, reduceCtorEq, if_false]
  · rw [placement_cyclic]
    split_ifs with hoff hspace
    · exact iff_of_false nofun fun h => h.1 hoff
    · exact iff_of_false nofun fun h => absurd hspace (Nat.not_lt.2 h.2)
    · exact iff_of_true rfl ⟨hoff, Nat.not_lt.1 hspace⟩
  · rw [placement_acyclic]
    split_ifs with hoff hspace
    · exact iff_of_false nofun fun h => h.1 hoff
    · exact iff_of_false nofun fun h => absurd hspace (Nat.not_lt.2 h.2)
    · exact iff_of_true rfl ⟨hoff, Nat.not_lt.1 hspace⟩

section
variable {s : State} {q : Port} {cls : StreamClass} (b : BufId)

theorem place_of_queued (h : (s.port q).placement cls = .queued) :
    s.place q cls b = s.modPort q fun ps => ps.enqueue cls b := by
  rw [State.place, h]

theorem place_of_full (h : (s.port q).placement cls = .full) :
    s.place q cls b =
      { s with free := b :: s.free }.modPort q fun ps =>
        { ps with counters := { ps.counters with queueFull := satInc ps.counters.queueFull } } := by
  rw [State.place, h]
  rfl

theorem place_of_down (h : (s.port q).placement cls = .down) :
    s.place q cls b =
      { s with free := b :: s.free }.modPort q fun ps =>
        { ps with counters := { ps.counters with downDrops := satInc ps.counters.downDrops } } := by
  rw [State.place, h]
  rfl

end

section
variable {s : State} {p : Port} (b : BufId)

/-- Toward a DOWN port (R55, R57). -/
theorem sendAcyclic_of_down (hoff : (s.port p.opp).receiver = .off) :
    s.sendAcyclic p b =
      ({ s with free := b :: s.free }.modPort p.opp fun ps =>
        { ps with counters := { ps.counters with downDrops := satInc ps.counters.downDrops } }).modPort p
        fun ps => ps.frameReport .down (s.port p.opp).acyclic.length := by
  have hplace := (placement_eq_down_iff (s.port p.opp) .acyclic).2 hoff
  rw [State.sendAcyclic, hplace, place_of_down b hplace, State.reportFrame, modPort_port_self]
  rfl

/-- Into a queue with space (R56, R57). -/
theorem sendAcyclic_of_space (hup : (s.port p.opp).receiver ≠ .off)
    (hspace : (s.port p.opp).acyclic.length < 64) :
    s.sendAcyclic p b =
      (s.modPort p.opp fun ps => { ps with acyclic := ps.acyclic ++ [b] }).modPort p
        fun ps => ps.frameReport .queued ((s.port p.opp).acyclic.length + 1) := by
  have hplace : (s.port p.opp).placement .acyclic = .queued := by
    rw [placement_acyclic, if_neg hup, if_pos hspace]
  rw [State.sendAcyclic, hplace, place_of_queued b hplace, State.reportFrame, modPort_port_self]
  simp [PortState.enqueue]

/-- At a full queue (R56, R57). -/
theorem sendAcyclic_of_full (hup : (s.port p.opp).receiver ≠ .off)
    (hfull : 64 ≤ (s.port p.opp).acyclic.length) :
    s.sendAcyclic p b =
      ({ s with free := b :: s.free }.modPort p.opp fun ps =>
        { ps with counters := { ps.counters with queueFull := satInc ps.counters.queueFull } }).modPort p
        fun ps => ps.frameReport .full (s.port p.opp).acyclic.length := by
  have hplace := (placement_eq_full_iff (s.port p.opp) .acyclic).2 ⟨hup, hfull⟩
  rw [State.sendAcyclic, hplace, place_of_full b hplace, State.reportFrame, modPort_port_self]
  rfl

/-- A frame joins the divert queue (R54, R58, R193). -/
theorem divertFrame_of_space (entry : Option Byte) (hspace : s.divert.length < 16) :
    s.divertFrame p entry b =
      { s with
        divert := s.divert ++ [⟨b, p, entry⟩]
        alertSlot := (s.divertFrame p entry b).alertSlot
        alertNumber := (s.divertFrame p entry b).alertNumber } ∧
      s.Alerted (s.divertFrame p entry b) := by
  have hdivert : s.divertFrame p entry b =
      s.alerting fun s => { s with divert := s.divert ++ [⟨b, p, entry⟩] } := if_pos hspace
  rw [hdivert]
  exact ⟨alerting_frame _ _, alerted_alerting _ _ _ rfl rfl rfl rfl⟩

theorem divertFrame_of_full (entry : Option Byte) (hfull : 16 ≤ s.divert.length) :
    s.divertFrame p entry b =
      { s with free := b :: s.free }.modPort p fun ps =>
        { ps with counters := { ps.counters with queueFull := satInc ps.counters.queueFull } } :=
  if_neg (Nat.not_lt.2 hfull)

end

/-! ### The state that the EOF of an intact frame leaves -/

section
variable (s : State) (p : Port)

@[simp] theorem received_mode : (s.received p).mode = s.mode := modPort_mode s p _

@[simp] theorem received_port_opp : (s.received p).port p.opp = s.port p.opp := modPort_port_opp s p _

@[simp] theorem received_entry (i : Byte) : (s.received p).entry i = s.entry i := by
  simp [State.received]

theorem received_lookup (q : Port) (id : StreamId) : (s.received p).lookup q id = s.lookup q id := by
  cases p <;> rfl

theorem received_gateOf (e : Entry) : (s.received p).gateOf e = s.gateOf e := by
  cases p <;> rfl

theorem received_free : (s.received p).free = s.free := modPort_free s p _

end

/-! ### BYPASS and HALTED -/

theorem classify_of_bypass {s : State} (p : Port) (f : Frame) (b : BufId) (hmode : s.mode = .bypass) :
    s.classify p f b = s.sendAcyclic p b := by
  rw [State.classify, hmode]

theorem classify_of_halted {s : State} (p : Port) (f : Frame) (b : BufId) (hmode : s.mode.isHalted = true) :
    s.classify p f b =
      { s with free := b :: s.free }.modPort p fun ps =>
        { ps with counters := { ps.counters with haltedDrops := satInc ps.counters.haltedDrops } } := by
  unfold State.classify
  split
  next hm =>
    rw [hm] at hmode
    cases hmode
  next => rfl
  next hm =>
    rw [hm] at hmode
    cases hmode

/-- Settles O23. -/
theorem bypassForwardsAndHaltedDrops : Obligations.BypassForwardsAndHaltedDrops := by
  refine ⟨fun s p b f htraffic hmode => ?bypass, fun s p b f htraffic hmode => ?halted⟩
  all_goals rw [exec_eof_of_traffic htraffic]
  case bypass =>
    rw [classify_of_bypass p f b ((received_mode s p).trans hmode)]
    refine ⟨fun hoff => congrArg _ ?_, fun hup hspace => congrArg _ ?_, fun hup hfull => congrArg _ ?_⟩
    · rw [sendAcyclic_of_down b (by rwa [received_port_opp]), received_port_opp, received_free]
    · rw [sendAcyclic_of_space b (by rwa [received_port_opp]) (by rwa [received_port_opp]),
        received_port_opp]
    · rw [sendAcyclic_of_full b (by rwa [received_port_opp]) (by rwa [received_port_opp]),
        received_port_opp, received_free]
  case halted =>
    rw [classify_of_halted p f b (by rwa [received_mode]), received_free]

/-! ### Misses -/

theorem classify_of_miss {s : State} {p : Port} {f : Frame} (b : BufId) (hmode : s.mode = .run)
    (hmiss : s.lookup p f.streamId = none) : s.classify p f b = s.miss p b := by
  rw [State.classify, hmode]
  dsimp only
  rw [hmiss]

/-- A miss is counted, and its fate is the ingress port's miss policy (R46). -/
theorem miss_eq (s : State) (p : Port) (b : BufId) :
    s.miss p b =
      match (s.port p).settings.missPolicy with
      | .forward => (s.count p .misses).sendAcyclic p b
      | .drop => (s.count p .misses).dropFrame b
      | .divert => (s.count p .misses).divertFrame p none b := rfl

/-- Settles O24. -/
theorem missGetsTheMissPolicy : Obligations.MissGetsTheMissPolicy := by
  intro s p b f htraffic hmode hnone
  have hmiss : (s.received p).lookup p f.streamId = none := by
    rw [received_lookup]
    exact (lookup_eq_none_iff s p f.streamId).2 hnone
  have hpolicy : ((s.received p).port p).settings.missPolicy = (s.port p).settings.missPolicy := by
    simp [State.received]
  rw [exec_eof_of_traffic htraffic, classify_of_miss b (by rwa [received_mode]) hmiss, State.miss, hpolicy]
  have hopp : ((s.received p).count p .misses).port p.opp = s.port p.opp := by simp [State.count]
  have hfree : ((s.received p).count p .misses).free = s.free := by simp [received_free]
  have hdivert : ((s.received p).count p .misses).divert = s.divert := by simp [State.received]
  refine ⟨(s.received p).count p .misses, rfl, fun h => ?forward, fun h => ?drop, fun h hspace => ?divert,
    fun h hfull => ?full⟩
  all_goals rw [h]; dsimp only
  case forward =>
    refine ⟨fun hoff => congrArg _ ?_, fun hup hspace => congrArg _ ?_, fun hup hfull => congrArg _ ?_⟩
    · rw [sendAcyclic_of_down b (by rwa [hopp]), hopp, hfree]
    · rw [sendAcyclic_of_space b (by rwa [hopp]) (by rwa [hopp]), hopp]
    · rw [sendAcyclic_of_full b (by rwa [hopp]) (by rwa [hopp]), hopp, hfree]
  case drop => rw [State.dropFrame, State.release, hfree]
  case divert =>
    obtain ⟨hframe, halerted⟩ := divertFrame_of_space (p := p) b none (by rwa [hdivert])
    rw [hdivert] at hframe
    exact ⟨_, rfl, hframe, halerted⟩
  case full => rw [divertFrame_of_full b none (by rwa [hdivert]), hfree]

/-! ### Hits -/

theorem classify_of_hit {s : State} {p : Port} {f : Frame} {i : Byte} {e : Entry} (b : BufId)
    (hmode : s.mode = .run) (hlookup : s.lookup p f.streamId = some i) (he : s.entry i = some e) :
    s.classify p f b = s.hit p i e f b := by
  rw [State.classify, hmode]
  dsimp only
  rw [hlookup]
  dsimp only
  rw [he]

/-- Traffic that hits entry `i` in RUN (R47). -/
theorem exec_eof_of_hit {s : State} {p : Port} {b : BufId} {f : Frame} {i : Byte} {e : Entry}
    (htraffic : s.HoldsTraffic p b f) (hmode : s.mode = .run) (hlookup : s.lookup p f.streamId = some i)
    (he : s.entry i = some e) : exec (.eof p) s = .next ((s.received p).hit p i e f b) := by
  rw [exec_eof_of_traffic htraffic, classify_of_hit b (by rwa [received_mode]) (by rwa [received_lookup])
    (by rwa [received_entry])]

section
variable {s : State} {e : Entry} (p : Port) (i : Byte) (f : Frame) (b : BufId)

theorem not_closed_of_opened (hst : e.state ≠ .suspended) (hgate : s.gateOf e = .opened) :
    ¬(e.state = .suspended ∨ s.gateOf e = .closed) := by
  rintro (h | h)
  · exact hst h
  · cases hgate.symm.trans h

/-- The checks of an entry (R48). -/
theorem hit_of_refused (h : e.state = .suspended ∨ s.gateOf e = .closed) :
    s.hit p i e f b = (s.setEntry i (some (e.count .dropped))).dropFrame b := by
  rw [State.hit, if_pos h]

/-- No kind but DATA has a sequence test (R50). -/
theorem hit_of_not_data (hopen : ¬(e.state = .suspended ∨ s.gateOf e = .closed)) (hkind : f.kind ≠ .data) :
    s.hit p i e f b = s.act p i e b := by
  rw [State.hit, if_neg hopen, if_pos hkind]

theorem hit_of_duplicate (hopen : ¬(e.state = .suspended ∨ s.gateOf e = .closed)) (hkind : f.kind = .data)
    (hdup : e.verdict f.seq = .duplicate) :
    s.hit p i e f b = (s.setEntry i (some (e.count .duplicates))).dropFrame b := by
  rw [State.hit, if_neg hopen, if_neg (not_not.2 hkind), if_pos hdup]

/-- An accepted DATA frame arrives before its action (R49, R51). -/
theorem hit_of_accepted (hopen : ¬(e.state = .suspended ∨ s.gateOf e = .closed)) (hkind : f.kind = .data)
    (hdup : e.verdict f.seq ≠ .duplicate) :
    s.hit p i e f b = (s.arrival i e f.seq).act p i e b := by
  rw [State.hit, if_neg hopen, if_neg (not_not.2 hkind), if_neg hdup]

end

/-! ### The sequence check -/

section
variable {e : Entry} (seq : Byte)

theorem verdict_of_off (hoff : e.seqCheck = false) : e.verdict seq = .accepted := by
  rw [Entry.verdict, hoff]
  rfl

theorem verdict_of_absent (hon : e.seqCheck = true) (hseq : e.expSeq = none) :
    e.verdict seq = .accepted := by
  rw [Entry.verdict, if_pos hon, hseq]

theorem verdict_of_expected {x : Byte} (hon : e.seqCheck = true) (hseq : e.expSeq = some x) :
    e.verdict seq = if seq = x then .accepted else if seq = x - 1 then .duplicate else .slip := by
  rw [Entry.verdict, if_pos hon, hseq]

theorem sub_one_ne (x : Byte) : x - 1 ≠ x := by
  revert x
  decide

/-- The frame before the expected one is a duplicate (R49). -/
theorem verdict_of_previous {x : Byte} (hon : e.seqCheck = true) (hseq : e.expSeq = some x) :
    e.verdict (x - 1) = .duplicate := by
  rw [verdict_of_expected _ hon hseq, if_neg (sub_one_ne x), if_pos rfl]

end

/-- Settles O25. -/
theorem entryChecksThenSequenceCheck : Obligations.EntryChecksThenSequenceCheck := by
  refine ⟨fun s p b f i e htraffic hmode hlookup he hrefused => ?refused, ⟨fun e seq hon => ?on,
    fun s p b f i e x htraffic hmode hlookup he hst hgate hkind hon hx hseq => ?duplicate⟩,
    fun e seq hoff => ⟨verdict_of_off seq hoff, ?off⟩,
    fun s p b f i e htraffic hmode hlookup he hst hgate hkind => ?other⟩
  case refused =>
    rw [exec_eof_of_hit htraffic hmode hlookup he, hit_of_refused p i f b (by rwa [received_gateOf])]
    cases p <;> rfl
  case on =>
    refine ⟨verdict_of_absent seq hon, fun x hx => ⟨fun h => ?_, fun h => ?_, fun h h' => ?_⟩, ?_⟩
    · rw [verdict_of_expected seq hon hx, if_pos h]
    · rw [h, verdict_of_previous hon hx]
    · rw [verdict_of_expected seq hon hx, if_neg h, if_neg h']
    · rw [Entry.expectNext, if_pos hon]
  case duplicate =>
    rw [exec_eof_of_hit htraffic hmode hlookup he, hit_of_duplicate p i f b
      (not_closed_of_opened hst (by rwa [received_gateOf])) hkind
      (by rw [hseq, verdict_of_previous hon hx])]
    cases p <;> rfl
  case off =>
    rw [Entry.expectNext, hoff]
    rfl
  case other =>
    rw [exec_eof_of_hit htraffic hmode hlookup he,
      hit_of_not_data p i f b (not_closed_of_opened hst (by rwa [received_gateOf])) hkind]

/-! ### The arrival -/

/-- What an arrival writes at its entry (R28, R49, R51). -/
theorem arrival_entry (s : State) (i : Byte) (e : Entry) (seq : Byte) :
    (s.arrival i e seq).entry i =
      some { e with
        state := .tracking
        expSeq := if e.seqCheck then some (seq + 1) else e.expSeq
        tracker :=
          e.tracker.map fun t => if e.state = .tracking then t.arriveTracking else t.arriveOther
        counters :=
          if e.verdict seq = .slip then { e.counters with slips := satInc e.counters.slips }
          else e.counters } := by
  have hentry : (s.arrival i e seq).entry i =
      some ((if e.verdict seq = .slip then e.count .slips else e).expectNext seq).arrive :=
    entry_setEntry_self s i _
  rw [hentry]
  unfold Entry.arrive Entry.expectNext
  split <;> cases hon : e.seqCheck <;> simp [Entry.count, EntryCounters.inc, hon]

/-- Settles O26. -/
theorem acceptedFrameArrivesBeforeItsAction : Obligations.AcceptedFrameArrivesBeforeItsAction := by
  intro s p b f i e htraffic hmode hlookup he hst hgate hkind hdup
  refine ⟨(s.received p).arrival i e f.seq, ?_, ?_, fun j hj => ?_, arrival_entry _ i e f.seq⟩
  · rw [exec_eof_of_hit htraffic hmode hlookup he,
      hit_of_accepted p i f b (not_closed_of_opened hst (by rwa [received_gateOf])) hkind hdup]
  · cases p <;> rfl
  · rw [State.arrival, unlist_entry, entry_setEntry_ne _ _ _ _ hj, received_entry]

/-! ### The actions -/

theorem act_of_drop {s : State} {e : Entry} (p : Port) (i : Byte) (b : BufId) (h : e.action = .drop) :
    s.act p i e b = (s.modEntry i fun e => e.count .dropped).dropFrame b := by
  rw [State.act, h]

/-- FORWARD: the entry counts what the placement finds, and a frame of an ACYCLIC entry is reported (R52, R57,
R60). -/
theorem act_of_forward {s : State} {e x : Entry} (p : Port) {i : Byte} (b : BufId)
    (h : e.action = .forward) (hx : s.entry i = some x) (hcls : x.cls = e.cls) :
    s.act p i e b =
      (s.setEntry i (some (x.countPlaced ((s.port p.opp).placement e.cls)))).sendByClass p e.cls b := by
  rw [State.act, h]
  dsimp only
  rw [modEntry_eq s i _ x hx, hcls]

theorem sendByClass_eq (s : State) (p : Port) (cls : StreamClass) (b : BufId) :
    s.sendByClass p cls b =
      if cls = .cyclic then s.place p.opp cls b
      else (s.place p.opp cls b).modPort p fun ps =>
        ps.frameReport ((s.port p.opp).placement cls) ((s.place p.opp cls b).port p.opp).acyclic.length := by
  cases cls <;> rfl

theorem act_of_divert_space {s : State} {e : Entry} (p : Port) (i : Byte) (b : BufId)
    (h : e.action = .divert) (hspace : s.divert.length < 16) :
    s.act p i e b = s.divertFrame p (some i) b := by
  rw [State.act, h]
  exact if_pos hspace

theorem act_of_divert_full {s : State} {e : Entry} (p : Port) (i : Byte) (b : BufId)
    (h : e.action = .divert) (hfull : 16 ≤ s.divert.length) :
    s.act p i e b = (s.modEntry i fun e => e.count .dropped).divertFrame p (some i) b := by
  rw [State.act, h]
  exact if_neg (Nat.not_lt.2 hfull)

/-- Settles O27. -/
theorem actionsForwardDropOrDivert : Obligations.ActionsForwardDropOrDivert := by
  refine ⟨fun s p i e b h => ?drop, fun s p i e x b h hx hcls => ?forward,
    fun s p i e b h => ⟨fun hspace => ?divert, fun hfull => ?full, ?pending⟩⟩
  case drop =>
    rw [act_of_drop p i b h]
    rfl
  case forward =>
    refine ⟨_, (s.port p.opp).placement e.cls,
      (s.setEntry i (some (x.countPlaced ((s.port p.opp).placement e.cls)))).place p.opp e.cls b, rfl,
      placement_eq_down_iff _ _, placement_eq_full_iff _ _, fun hq => ?_, fun hf => ?_, fun hd => ?_, ?_⟩
    · rw [hq, place_of_queued b (by rwa [setEntry_port])]
      refine modPort_congr _ ?_
      cases e.cls <;> rfl
    · rw [hf, place_of_full b (by rwa [setEntry_port])]
      rfl
    · rw [hd, place_of_down b (by rwa [setEntry_port])]
      change ({ s.setEntry i (some x) with free := b :: s.free } : State).modPort _ _ = _
      rw [← hx, setEntry_entry]
    · rw [act_of_forward p b h hx hcls, sendByClass_eq, setEntry_port]
  case divert =>
    rw [act_of_divert_space p i b h hspace]
    exact divertFrame_of_space b (some i) hspace
  case full =>
    rw [act_of_divert_full p i b h hfull,
      divertFrame_of_full (s := s.modEntry i fun e => e.count .dropped) b (some i) hfull]
    cases p <;> rfl
  case pending => simp [State.pendingCauses]

end Sys2Proof.Machine

/-! PROOF. Transmission starts (R125 to R127, R141, R142): the source the scheduler chooses, the start from
each, and O28. -/

namespace Sys2Proof.Machine

section
variable {s : State} {p : Port}

/-! ### The choice -/

theorem choose_of_control {k : Control} (hslot : (s.port p).controlSlot = some k) :
    s.choose p = some .control := by
  have heligible : s.eligible p .control = true := by rw [State.eligible, hslot]; rfl
  cases p <;> exact List.find?_cons_of_pos heligible

theorem control_not_eligible (hslot : (s.port p).controlSlot = none) :
    ¬s.eligible p .control = true := by
  rw [State.eligible, hslot]
  nofun

/-- On port N the response queue comes next (R126). -/
theorem choose_of_response {r : Response} {rest : List Response} (hslot : s.portN.controlSlot = none)
    (hqueue : s.responses = r :: rest) : s.choose .N = some .response := by
  have heligible : s.eligible .N .response = true := by rw [State.eligible, hqueue]; rfl
  exact (List.find?_cons_of_neg (control_not_eligible (p := .N) hslot)).trans
    (List.find?_cons_of_pos heligible)

theorem choose_of_alert {a : Alert} (hslot : s.portN.controlSlot = none) (hqueue : s.responses = [])
    (halert : s.alertSlot = some a) : s.choose .N = some .alert := by
  have hresponse : ¬s.eligible .N .response = true := by
    rw [State.eligible, hqueue]
    nofun
  have heligible : s.eligible .N .alert = true := by rw [State.eligible, halert]; rfl
  exact (List.find?_cons_of_neg (control_not_eligible (p := .N) hslot)).trans
    ((List.find?_cons_of_neg hresponse).trans (List.find?_cons_of_pos heligible))

/-- With nothing ahead of them, the two data queues decide (R126). -/
theorem choose_of_higherIdle (hidle : s.HigherIdle p) :
    s.choose p = [Source.cyclic, .acyclic].find? (s.eligible p) := by
  obtain ⟨hslot, hN⟩ := hidle
  have hcontrol := control_not_eligible hslot
  cases p with
  | N =>
    obtain ⟨hqueue, halert⟩ := hN rfl
    have hresponse : ¬s.eligible .N .response = true := by
      rw [State.eligible, hqueue]
      nofun
    have hno : ¬s.eligible .N .alert = true := by
      rw [State.eligible, halert]
      nofun
    exact (List.find?_cons_of_neg hcontrol).trans
      ((List.find?_cons_of_neg hresponse).trans (List.find?_cons_of_neg hno))
  | S => exact List.find?_cons_of_neg hcontrol

theorem choose_of_cyclic {d : Descr} {rest : List Descr} (hidle : s.HigherIdle p)
    (hmode : s.mode.isHalted = false) (hqueue : (s.port p).cyclic = d :: rest) :
    s.choose p = some .cyclic := by
  have heligible : s.eligible p .cyclic = true := by rw [State.eligible, hqueue, hmode]; rfl
  exact (choose_of_higherIdle hidle).trans (List.find?_cons_of_pos heligible)

theorem cyclic_not_eligible (hqueue : (s.port p).cyclic = []) : ¬s.eligible p .cyclic = true := by
  rw [State.eligible, hqueue]
  nofun

theorem choose_of_acyclic {b : BufId} {rest : List BufId} (hidle : s.HigherIdle p)
    (hmode : s.mode.isHalted = false) (hcyclic : (s.port p).cyclic = [])
    (hheld : (s.port p).held = false) (hqueue : (s.port p).acyclic = b :: rest) :
    s.choose p = some .acyclic := by
  have heligible : s.eligible p .acyclic = true := by rw [State.eligible, hqueue, hmode, hheld]; rfl
  exact (choose_of_higherIdle hidle).trans
    ((List.find?_cons_of_neg (cyclic_not_eligible hcyclic)).trans (List.find?_cons_of_pos heligible))

/-- Nothing is eligible (R125). -/
theorem choose_eq_none (hidle : s.HigherIdle p)
    (hno : s.mode.isHalted = true ∨
      (s.port p).cyclic = [] ∧ ((s.port p).held = true ∨ (s.port p).acyclic = [])) :
    s.choose p = none := by
  have hcyclic : ¬s.eligible p .cyclic = true := by
    rcases hno with hmode | ⟨hqueue, _⟩
    · simp [State.eligible, hmode]
    · exact cyclic_not_eligible hqueue
  have hacyclic : ¬s.eligible p .acyclic = true := by
    rcases hno with hmode | ⟨_, hheld | hqueue⟩
    · simp [State.eligible, hmode]
    · simp [State.eligible, hheld]
    · simp [State.eligible, hqueue]
  exact (choose_of_higherIdle hidle).trans
    ((List.find?_cons_of_neg hcyclic).trans (List.find?_cons_of_neg hacyclic))

/-! ### The start -/

theorem takeStart_of_not_ready (h : (s.port p).tx ≠ .ready ∨ (s.port p).receiver = .off) :
    s.takeStart p = s := by
  refine if_neg fun hready => ?_
  rcases h with htx | hoff
  · exact htx hready.1
  · exact (isUp_iff _).1 hready.2 hoff

theorem takeStart_of_none (hchoose : s.choose p = none) : s.takeStart p = s := by
  rw [State.takeStart, hchoose]
  exact ite_self s

theorem takeStart_of_choose {src : Source} (htx : (s.port p).tx = .ready)
    (hup : (s.port p).receiver ≠ .off) (hchoose : s.choose p = some src) :
    s.takeStart p = s.startFrom p src := by
  rw [State.takeStart, if_pos ⟨htx, (isUp_iff _).2 hup⟩, hchoose]

theorem startControl_eq {k : Control} (hslot : (s.port p).controlSlot = some k) :
    s.startControl p =
      s.modPort p fun ps =>
        { ps with
          controlSlot := none
          tx := .sending (.control k)
          counters := ps.counters.inc k.counter } := by
  rw [State.startControl, hslot]
  cases p <;> rfl

theorem startResponse_eq {r : Response} {rest : List Response} (hqueue : s.responses = r :: rest) :
    s.startResponse .N =
      { s with responses := rest }.modPort .N fun ps => { ps with tx := .sending (.response r) } := by
  rw [State.startResponse, hqueue]
  rfl

theorem startAlert_eq {a : Alert} (halert : s.alertSlot = some a) :
    s.startAlert .N =
      { s with alertSlot := none }.modPort .N fun ps => { ps with tx := .sending (.alert a) } := by
  rw [State.startAlert, halert]
  rfl

theorem startCyclic_eq {d : Descr} {rest : List Descr} (hqueue : (s.port p).cyclic = d :: rest) :
    s.startCyclic p =
      s.modPort p fun ps => { ps with cyclic := rest, tx := .sending (.cyclic d) } := by
  rw [State.startCyclic, hqueue]
  exact modPort_modPort s p _ _

/-- A removal from an acyclic queue is reported to the opposite pause half (R141). -/
theorem startAcyclic_eq {b : BufId} {rest : List BufId} (hqueue : (s.port p).acyclic = b :: rest) :
    s.startAcyclic p =
      (s.modPort p fun ps => { ps with acyclic := rest, tx := .sending (.acyclic b) }).modPort p.opp
        fun ps => ps.drainReport rest.length := by
  rw [State.startAcyclic, hqueue]
  dsimp only
  rw [State.send, modPort_modPort]

end

/-- Settles O28. -/
theorem transmissionStartTakesTheFirstEligibleSource :
    Obligations.TransmissionStartTakesTheFirstEligibleSource := by
  intro s p hrun
  have hexec : exec (.transmissionStart p) s = .next (s.takeStart p) := next_live hrun _
  rw [hexec]
  refine ⟨fun h => congrArg _ (takeStart_of_not_ready h), fun htx hup => ?_⟩
  have hstart {src : Source} (hchoose : s.choose p = some src) :
      (Host.Outcome.next (s.takeStart p) : Out) = .next (s.startFrom p src) :=
    congrArg _ (takeStart_of_choose htx hup hchoose)
  refine ⟨fun k hslot => ?control, fun r rest hp hslot hqueue => ?response,
    fun a hp hslot hqueue halert => ?alert, fun d rest hidle hmode hqueue => ?cyclic,
    fun b rest hidle hmode hcyclic hheld hqueue => ?acyclic,
    fun hidle hno => congrArg _ (takeStart_of_none (choose_eq_none hidle hno))⟩
  case control =>
    refine (hstart (choose_of_control hslot)).trans (congrArg _ ((startControl_eq hslot).trans ?_))
    cases k <;> rfl
  case response =>
    subst hp
    exact (hstart (choose_of_response hslot hqueue)).trans (congrArg _ (startResponse_eq hqueue))
  case alert =>
    subst hp
    exact (hstart (choose_of_alert hslot hqueue halert)).trans (congrArg _ (startAlert_eq halert))
  case cyclic =>
    exact (hstart (choose_of_cyclic hidle hmode hqueue)).trans (congrArg _ (startCyclic_eq hqueue))
  case acyclic =>
    exact (hstart (choose_of_acyclic hidle hmode hcyclic hheld hqueue)).trans
      (congrArg _ (startAcyclic_eq hqueue))

end Sys2Proof.Machine

/-! PROOF. The cadence engine (R64, R73 to R80, R89, R90, R99 to R106): the preload at an arrival, ticks and
lapses (O32, O33, O35). -/

namespace Sys2Proof.Machine

/-! ### The preload -/

theorem and_not_toLearn (x : Bool) (m : TrackMode) (given : Option TrackMode) :
    (x && !(m == .fixed && given == some .learn)) =
      if m = .fixed ∧ given = some .learn then false else x := by
  by_cases h : m = .fixed ∧ given = some .learn
  · rw [if_pos h, h.1, h.2]
    exact Bool.and_false x
  · rw [if_neg h]
    simp only [Bool.and_eq_left_iff_imp, Bool.not_eq_true']
    intro _
    rw [Bool.eq_false_iff]
    simpa using h

theorem takePreload_of_some {t : Tracker} {u : Tune} (h : t.preload = some u) :
    t.takePreload = { t.applyTune u with preload := none } := by
  rw [Tracker.takePreload, h]

theorem arriveOther_of_no_preload {t : Tracker} (h : t.preload = none) :
    t.arriveOther = { t.settle false with elapsed := 0, misses := 0 } := by
  rw [Tracker.arriveOther, takePreload_of_none t h]
  rfl

/-- Once its preload is applied, an arrival is one with no preload in the mode it leaves (R78). -/
theorem arrival_of_preload {t : Tracker} {u : Tune} (h : t.preload = some u) :
    t.arriveOther = ({ t.applyTune u with preload := none } : Tracker).arriveOther ∧
      t.arriveTracking = ({ t.applyTune u with preload := none } : Tracker).arriveTracking := by
  have hcapture : t.capture.takePreload =
      ({ t.applyTune u with preload := none } : Tracker).capture.takePreload := by
    rw [takePreload_of_some (t := t.capture) h,
      takePreload_of_none (Tracker.capture { t.applyTune u with preload := none }) rfl]
    rfl
  constructor
  · rw [Tracker.arriveOther, takePreload_of_some h, arriveOther_of_no_preload rfl]
    rfl
  · rw [Tracker.arriveTracking, hcapture]
    rfl

/-- Settles O32. -/
theorem arrivalAppliesThePreload : Obligations.ArrivalAppliesThePreload := by
  refine ⟨fun t u => ?_, fun t => arriveOther_of_no_preload, fun t u => arrival_of_preload⟩
  rw [Tracker.applyTune, and_not_toLearn, and_not_toLearn]

/-! ### Counting entries -/

/-- At an entry that does not count nothing happens (R63). -/
theorem atCounting_of_not_counts {s : State} {i : Byte} (f : Entry → Tracker → State)
    (hrun : s.running = true) (hno : ∀ e t, ¬s.Counts i e t) : s.atCounting i f = s := by
  unfold State.atCounting
  split
  next => rfl
  next e he =>
    split
    next => rfl
    next t ht =>
      refine if_neg fun hcount => ?_
      simp only [State.counting, Bool.and_eq_true, beq_iff_eq] at hcount
      obtain ⟨⟨htracked, hmode⟩, hgate⟩ := hcount
      exact hno e t ⟨hrun, he, ht, htracked, hmode, hgate⟩

section
variable {s : State} {i : Byte} {e : Entry} {t : Tracker}

theorem exec_tickExpiry_of_counts (h : s.Counts i e t) :
    exec (.tickExpiry i) s = .next (s.takeTick i e t) := by
  refine (next_live h.1 _).trans (congrArg _ ?_)
  exact atCounting_of_counts s i e t (fun e t => s.takeTick i e t) h

theorem exec_lapse_of_counts (h : s.Counts i e t) :
    exec (.lapse i) s = .next (s.takeLapse i e (t.untilLapse e.state)) := by
  refine (next_live h.1 _).trans (congrArg _ ?_)
  exact atCounting_of_counts s i e t (fun e t => s.takeLapse i e (t.untilLapse e.state)) h

theorem tracking_or_overdue {st : EntryState} (h : st.tracked = true) : st = .tracking ∨ st = .overdue := by
  cases st with
  | tracking => exact .inl rfl
  | overdue => exact .inr rfl
  | suspended | armed | lapsed => cases h

/-! ### Ticks -/

/-- The tracker after a slow-down (R79). -/
def Tracker.slowed (t : Tracker) : Tracker :=
  ({ t with
    exp := t.exp + 1
    elapsed := 127
    last := t.last / 2
    prev := t.prev / 2
    fixedDeadline := max 1 (t.fixedDeadline / 2) } : Tracker).settle false

/-- The slow-down is made at 255 ticks. -/
theorem slowDown_at_255 (t : Tracker) : ({ t with elapsed := 255 } : Tracker).slowDown = t.slowed := by
  simp [Tracker.slowDown, Tracker.slowed, halvedKeep]

theorem tick_of_slows {st : EntryState} (h : t.slowsAt st (t.elapsed + 1) = true) :
    t.tick st = (t.slowed, decide (t.slowed.deadline ≤ 127)) := by
  obtain ⟨_, _, _, h255⟩ := (slowsAt_iff _ _ _).1 h
  rw [Tracker.tick, if_pos h, h255, slowDown_at_255]

/-- A tick with no slow-down lapses at the deadline of the entry's state (R64, R80, R99). -/
theorem tick_of_not_slows {st : EntryState} (hst : st.tracked = true)
    (h : ¬t.slowsAt st (t.elapsed + 1) = true) :
    t.tick st = ({ t with elapsed := t.elapsed + 1 },
      decide (st = .tracking ∧ t.elapsed + 1 = t.deadline ∨
        st = .overdue ∧ t.elapsed + 1 = t.repeatDeadline)) := by
  rw [Tracker.tick, if_neg h]
  rcases tracking_or_overdue hst with rfl | rfl
  · rw [if_pos rfl]
    simp
  · rw [if_neg nofun]
    simp only [reduceCtorEq, false_and, false_or, true_and]
    rfl

theorem takeTick_of_lapse {t1 : Tracker} (h : t.tick e.state = (t1, true)) :
    s.takeTick i e t = s.takeLapse i e t1 := by
  rw [State.takeTick, h]
  rfl

theorem takeTick_of_no_lapse {t1 : Tracker} (h : t.tick e.state = (t1, false)) :
    s.takeTick i e t = s.setEntry i (some { e with tracker := some t1 }) := by
  rw [State.takeTick, h]
  rfl

/-- Settles O33. -/
theorem tickExpiryCountsSlowsOrLapses : Obligations.TickExpiryCountsSlowsOrLapses := by
  refine ⟨fun s i e t hcounts => ⟨fun hslow => ?slow, fun hno => ?count⟩, fun s i hrun hno => ?none⟩
  case slow =>
    have htick := tick_of_slows ((slowsAt_iff t e.state _).2 hslow)
    refine ⟨t.slowed, rfl, fun hlate => ?_, fun hearly => ?_⟩
    · rw [decide_eq_false (Nat.not_le.2 hlate)] at htick
      rw [exec_tickExpiry_of_counts hcounts, takeTick_of_no_lapse htick]
    · rw [decide_eq_true hearly] at htick
      rw [exec_tickExpiry_of_counts hcounts, takeTick_of_lapse htick]
  case count =>
    obtain ⟨_, _, _, hst, _⟩ := id hcounts
    have htick := tick_of_not_slows hst fun h => hno ((slowsAt_iff t e.state _).1 h)
    refine ⟨fun hmet => ?_, fun hunmet => ?_⟩
    · rw [decide_eq_true hmet] at htick
      rw [exec_tickExpiry_of_counts hcounts, takeTick_of_lapse htick]
    · rw [decide_eq_false hunmet] at htick
      rw [exec_tickExpiry_of_counts hcounts, takeTick_of_no_lapse htick]
  case none =>
    exact ⟨(next_live hrun _).trans (congrArg _ (atCounting_of_not_counts _ hrun hno)),
      (next_live hrun _).trans (congrArg _ (atCounting_of_not_counts _ hrun hno))⟩

/-! ### Lapses -/

/-- Whether a lapse's gap marker joins the egress port's cyclic queue (R103, R104). -/
def Tracker.marks (t : Tracker) : Bool := t.gapPolicy == .mark

/-- A lapse before the lapse list: the marker, or its loss, and the entry (R101 to R104). -/
def State.missed (s : State) (i : Byte) (e : Entry) (t : Tracker) : State :=
  (if t.marks && (s.port e.keyPort.opp).takesMarker then
      s.modPort e.keyPort.opp fun ps =>
        { ps with cyclic := ps.cyclic ++ [.marker (e.marker i (t.misses + 1))] }
    else s).setEntry i (some (e.lapsed t (t.marks && !(s.port e.keyPort.opp).takesMarker)))

theorem takeLapse_eq (s : State) (i : Byte) (e : Entry) (t : Tracker) :
    s.takeLapse i e t =
      if t.misses + 1 = t.missLimit then (s.missed i e t).enlist i else s.missed i e t := rfl

theorem missed_frame (s : State) (i : Byte) (e : Entry) (t : Tracker) :
    s.missed i e t =
      { s with
        portN := (s.missed i e t).portN
        portS := (s.missed i e t).portS
        table := (s.missed i e t).table } := by
  unfold State.missed
  split
  · cases e.keyPort <;> rfl
  · rfl

theorem missed_port_self (s : State) (i : Byte) (e : Entry) (t : Tracker) :
    (s.missed i e t).port e.keyPort = s.port e.keyPort := by
  unfold State.missed
  split <;> simp

theorem missed_port_opp (s : State) (i : Byte) (e : Entry) (t : Tracker) :
    (s.missed i e t).port e.keyPort.opp =
      { s.port e.keyPort.opp with
        cyclic :=
          if t.gapPolicy = .mark ∧ (s.port e.keyPort.opp).takesMarker = true then
            (s.port e.keyPort.opp).cyclic ++
              [.marker ⟨i, e.streamId, e.expSeq.getD 0, t.misses + 1⟩]
          else (s.port e.keyPort.opp).cyclic } := by
  have hiff : (t.marks && (s.port e.keyPort.opp).takesMarker) = true ↔
      t.gapPolicy = .mark ∧ (s.port e.keyPort.opp).takesMarker = true := by
    simp [Tracker.marks]
  unfold State.missed
  simp only [hiff]
  split
  · rw [setEntry_port, modPort_port_self]
    rfl
  · rw [setEntry_port]

theorem missed_entry_self (s : State) (i : Byte) (e : Entry) (t : Tracker) :
    (s.missed i e t).entry i =
      some (e.lapsed t (t.marks && !(s.port e.keyPort.opp).takesMarker)) :=
  entry_setEntry_self _ i _

theorem missed_entry_ne (s : State) {i j : Byte} (e : Entry) (t : Tracker) (hj : j ≠ i) :
    (s.missed i e t).entry j = s.entry j := by
  rw [State.missed, entry_setEntry_ne _ _ _ _ hj]
  split
  · exact modPort_entry _ _ _ _
  · rfl

/-- The alert unit reads nothing that a lapse writes before the list. -/
theorem missed_alertUnit (s : State) (i : Byte) (e : Entry) (t : Tracker) :
    (s.missed i e t).anyActive = s.anyActive ∧ (s.missed i e t).alertSlot = s.alertSlot ∧
      (s.missed i e t).alertNumber = s.alertNumber ∧ (s.missed i e t).mgmtId = s.mgmtId := by
  rw [missed_frame]
  exact ⟨rfl, rfl, rfl, rfl⟩

/-- What the lapse list's step changes (R106, R114). -/
theorem takeLapse_list (s : State) (i : Byte) (e : Entry) (t : Tracker) :
    s.takeLapse i e t =
      { s.missed i e t with
        lapseList :=
          if t.misses + 1 = t.missLimit ∧ s.lapseList.length < 32 then s.lapseList ++ [i]
          else s.lapseList
        lapseOverflow :=
          s.lapseOverflow || (decide (t.misses + 1 = t.missLimit) && decide (32 ≤ s.lapseList.length))
        alertSlot := (s.takeLapse i e t).alertSlot
        alertNumber := (s.takeLapse i e t).alertNumber } := by
  have hlist : (s.missed i e t).lapseList = s.lapseList := by rw [missed_frame]
  have hover : (s.missed i e t).lapseOverflow = s.lapseOverflow := by rw [missed_frame]
  rw [takeLapse_eq]
  split
  next hlimit =>
    conv_lhs => rw [enlist_frame]
    rw [hlist, hover]
    by_cases hspace : s.lapseList.length < 32
    · simp [hlimit, hspace]
    · simp [hlimit, hspace, Nat.not_lt.1 hspace]
  next hlimit => simp [hlimit, ← hlist, ← hover]

theorem alerted_takeLapse (s : State) (i : Byte) (e : Entry) (t : Tracker) :
    s.Alerted (s.takeLapse i e t) := by
  obtain ⟨hactive, hslot, hnumber, hid⟩ := missed_alertUnit s i e t
  rw [takeLapse_eq]
  split
  · refine alerted_alerting s (s.missed i e t) _ hactive ?_ ?_ ?_ <;> split <;> assumption
  · exact alerted_of_same s _ hactive hslot hnumber

theorem takesMarker_eq (ps : PortState) :
    ps.takesMarker = (decide (ps.receiver ≠ .off) && decide (ps.cyclic.length < 32)) := by
  rw [Bool.eq_iff_iff, takesMarker_iff]
  simp

/-! ### LAPSE through the slow-downs -/

theorem untilLapse_of_overdue (h : e.state = .overdue) : t.untilLapse e.state = t := by
  rw [h]
  rfl

/-- With no slow-down before it the deadline is met as it stands (R99). -/
theorem untilLapse_of_not_slows {st : EntryState} (h : ¬t.slowsAt .tracking t.deadline = true) :
    t.untilLapse st = t := by
  rw [Tracker.untilLapse, toDeadline_of_not_slows _ t (Bool.eq_false_iff.2 h)]
  exact ite_self t

theorem untilLapse_of_slows (h : t.slowsAt .tracking t.deadline = true) :
    t.untilLapse .tracking =
      if t.slowed.deadline ≤ 127 then t.slowed else t.slowed.untilLapse .tracking := by
  obtain ⟨_, _, hexp, _⟩ := (slowsAt_iff _ _ _).1 h
  have hslowed : t.slowed.exp = t.exp + 1 := by
    unfold Tracker.slowed Tracker.settle
    split <;> rfl
  obtain ⟨k, hk⟩ : ∃ k, 15 - t.exp = k + 1 := ⟨14 - t.exp, by omega⟩
  have hfuel : 15 - t.slowed.exp = k := by omega
  rw [Tracker.untilLapse, if_pos rfl, hk, Tracker.toDeadline, if_pos h, slowDown_at_255,
    Tracker.untilLapse, if_pos rfl, hfuel]

/-- A lapse writes over the tracker that the entry holds. -/
theorem takeLapse_setEntry (s : State) (i : Byte) (e : Entry) (x : Option Tracker) (o : Option Entry)
    (t : Tracker) : (s.setEntry i o).takeLapse i { e with tracker := x } t = s.takeLapse i e t := by
  have hmissed : (s.setEntry i o).missed i { e with tracker := x } t = s.missed i e t := by
    have hcomm (p : Port) (f : PortState → PortState) :
        (s.setEntry i o).modPort p f = (s.modPort p f).setEntry i o := by cases p <;> rfl
    have hlapsed (lost : Bool) : ({ e with tracker := x } : Entry).lapsed t lost = e.lapsed t lost := by
      rw [entry_lapsed, entry_lapsed]
    unfold State.missed
    rw [setEntry_port, hlapsed]
    split
    · rw [hcomm, setEntry_setEntry]
      rfl
    · rw [setEntry_setEntry]
  rw [takeLapse_eq, takeLapse_eq, hmissed]

theorem counts_setTracker (h : s.Counts i e t) (t1 : Tracker) :
    (s.setEntry i (some { e with tracker := some t1 })).Counts i { e with tracker := some t1 } t1 := by
  obtain ⟨hrun, _, _, hst, hmode, hgate⟩ := h
  exact ⟨hrun, entry_setEntry_self s i _, rfl, hst, hmode, hgate⟩

end

/-- Settles O35. -/
theorem lapseCountsMarksAndLists : Obligations.LapseCountsMarksAndLists := by
  refine ⟨fun s i e t => ?taken, fun s i e t hcounts => ⟨fun h => ?stands, fun hst hmode hdl hexp => ?slows⟩⟩
  case taken =>
    have hlist := takeLapse_list s i e t
    have hport (q : Port) : (s.takeLapse i e t).port q = (s.missed i e t).port q := by
      rw [hlist]
      exact port_congr rfl rfl q
    have hentry (j : Byte) : (s.takeLapse i e t).entry j = (s.missed i e t).entry j := by
      rw [hlist]
      rfl
    refine ⟨s.takeLapse i e t, t.marks && !(s.port e.keyPort.opp).takesMarker,
      (s.port e.keyPort.opp).takesMarker, decide (t.misses + 1 = t.missLimit), rfl, takesMarker_eq _, ?_,
      rfl, ?_, ?_, ?_, fun j hj => ?_, ?_, ?_, ?_, ?_, alerted_takeLapse s i e t⟩
    · rw [Tracker.marks]
      rfl
    · rw [hlist]
      conv_lhs => rw [missed_frame]
    · rw [hport, missed_port_self]
    · rw [hport, missed_port_opp]
    · rw [hentry, missed_entry_ne s e t hj]
    · rw [hentry, missed_entry_self, entry_lapsed]
      simp only [decide_eq_true_eq]
    · rw [hlist]
      simp only [decide_eq_true_eq]
    · rw [hlist]
    · simp [State.pendingCauses]
  case stands =>
    rw [exec_lapse_of_counts hcounts]
    refine congrArg _ (congrArg _ ?_)
    by_cases hover : e.state = .overdue
    · exact untilLapse_of_overdue hover
    · refine untilLapse_of_not_slows fun hslow => ?_
      obtain ⟨_, hlearn, hexp, hdl⟩ := (slowsAt_iff _ _ _).1 hslow
      rcases h with h | h | h | h
      · exact hover h
      · cases hlearn.symm.trans h
      · exact h hdl
      · omega
  case slows =>
    have hslow : t.slowsAt .tracking t.deadline = true := (slowsAt_iff _ _ _).2 ⟨rfl, hmode, hexp, hdl⟩
    refine ⟨t.slowed, rfl, fun hearly => ?_, fun hlate => ?_⟩
    · rw [exec_lapse_of_counts hcounts, hst, untilLapse_of_slows hslow, if_pos hearly]
    · rw [exec_lapse_of_counts hcounts, exec_lapse_of_counts (counts_setTracker hcounts t.slowed),
        takeLapse_setEntry, hst, untilLapse_of_slows hslow, if_neg (Nat.not_le.2 hlate)]

end Sys2Proof.Machine

/-! PROOF. The run mode (R30, R133, R141, R148, R159, R183, R190, R199, R200): O36 and O37. -/

namespace Sys2Proof.Machine

/-! ### What a change of mode writes -/

section
variable (s : State) (m : RunMode)

theorem haltPath_moves :
    ∃ n t f, s.haltPath m = { s with portN := n, portS := t, free := f } := by
  unfold State.haltPath
  split
  · exact enterHalted_moves s
  · exact ⟨_, _, _, rfl⟩

/-- Leaving HALTED clears FROZEN (R190, R199). -/
theorem clearFrozen_eq :
    s.clearFrozen m =
      { s with causes := { s.causes with frozen := s.causes.frozen && !(s.mode.isHalted && !m.isHalted) } } := by
  unfold State.clearFrozen
  by_cases h : s.mode.isHalted = true ∧ ¬m.isHalted = true
  · rw [if_pos h, h.1, Bool.eq_false_iff.2 h.2]
    simp
  · rw [if_neg h]
    have hstay : (s.mode.isHalted && !m.isHalted) = false := by
      rw [Bool.eq_false_iff]
      simpa using h
    simp [hstay]

theorem changeMode_frame :
    s.changeMode m =
      { s with
        mode := m
        table := (s.changeMode m).table
        portN := (s.changeMode m).portN
        portS := (s.changeMode m).portS
        free := (s.changeMode m).free
        causes :=
          { s.causes with frozen := s.causes.frozen && !(s.mode.isHalted && !m.isHalted) } } := by
  obtain ⟨n, t, f, hpath⟩ := haltPath_moves (s.leaveRun m) m
  rw [State.changeMode, clearFrozen_eq, hpath, leaveRun_frame]

theorem changeMode_port (p : Port) :
    (s.changeMode m).port p = ((s.leaveRun m).haltPath m).port p := by
  rw [State.changeMode, clearFrozen_eq]
  exact port_congr rfl rfl p

theorem changeMode_free : (s.changeMode m).free = ((s.leaveRun m).haltPath m).free := by
  rw [State.changeMode, clearFrozen_eq]

theorem leaveRun_port (p : Port) : (s.leaveRun m).port p = s.port p := by
  rw [leaveRun_frame]
  exact port_congr rfl rfl p

theorem leaveRun_free : (s.leaveRun m).free = s.free := by rw [leaveRun_frame]

theorem leaveRun_mode : (s.leaveRun m).mode = s.mode := by rw [leaveRun_frame]

/-- The move of an entry out of RUN (R30). -/
theorem disarm_eq (e : Entry) :
    e.disarm =
      if e.state = .tracking ∨ e.state = .overdue then
        { e with state := .armed, tracker := e.tracker.map fun k => { k with misses := 0 } }
      else e := by
  unfold Entry.disarm
  cases hst : e.state <;> simp [EntryState.tracked]

theorem changeMode_entry (i : Byte) :
    (s.changeMode m).entry i =
      (s.entry i).map fun e =>
        if s.mode = .run ∧ m ≠ .run ∧ (e.state = .tracking ∨ e.state = .overdue) then
          { e with
            state := .armed
            tracker := e.tracker.map fun k => { k with misses := 0 } }
        else e := by
  rw [entry_changeMode, State.leaveRun]
  by_cases h : s.mode = .run ∧ m ≠ .run
  · rw [if_pos h, entry_disarm]
    congr 1
    funext e
    rw [if_pos rfl, disarm_eq]
    simp only [h.1, h.2, ne_eq, not_false_eq_true, true_and]
  · rw [if_neg h]
    have hno (e : Entry) : ¬(s.mode = .run ∧ m ≠ .run ∧ (e.state = .tracking ∨ e.state = .overdue)) :=
      fun hall => h ⟨hall.1, hall.2.1⟩
    simp only [hno, if_false]
    exact Option.map_id.symm ▸ rfl

end

/-! ### The entry into HALTED -/

theorem abandonTraffic_free (s : State) (p : Port) :
    (s.abandonTraffic p).free =
      (if (s.port p).tx.sendsTraffic then (s.port p).tx.bufs else []) ++ s.free := by
  unfold State.abandonTraffic
  split <;> simp

/-- The buffers of the queues and of the traffic in transmission go back to the pool (R129, R131, R133). -/
theorem enterHalted_free_perm (s : State) :
    s.enterHalted.free.Perm (s.free ++ descrBufs s.portN.cyclic ++ s.portN.acyclic ++
      (if s.portN.tx.sendsTraffic then s.portN.tx.bufs else []) ++
      descrBufs s.portS.cyclic ++ s.portS.acyclic ++
      (if s.portS.tx.sendsTraffic then s.portS.tx.bufs else [])) := by
  have hN := abandonTraffic_port_self s .N
  have hN' : (s.abandonTraffic .N).port .S = s.port .S := abandonTraffic_port_opp s .N
  have hS := abandonTraffic_port_self (s.abandonTraffic .N) .S
  have hS' : ((s.abandonTraffic .N).abandonTraffic .S).port .N = (s.abandonTraffic .N).port .N :=
    abandonTraffic_port_opp (s.abandonTraffic .N) .S
  have hF : (((s.abandonTraffic .N).abandonTraffic .S).flushQueues .N).port .S =
      (((s.abandonTraffic .N).abandonTraffic .S).port .S).drainReport 0 :=
    flushQueues_port_opp ((s.abandonTraffic .N).abandonTraffic .S) .N
  obtain ⟨_, hcyclic, hacyclic, _⟩ :=
    sameFrames_drainReport (((s.abandonTraffic .N).abandonTraffic .S).port .S) 0
  refine List.perm_iff_count.2 fun a => ?_
  rw [State.enterHalted, flushQueues_free, flushQueues_free, abandonTraffic_free, abandonTraffic_free, hF,
    hcyclic, hacyclic, hS, hS', hN, hN', show s.port .N = s.portN from rfl,
    show s.port .S = s.portS from rfl]
  simp only [List.count_append]
  omega

/-- Settles O36. -/
theorem modeChangeMovesEntriesAndQueues : Obligations.ModeChangeMovesEntriesAndQueues := by
  intro s m
  refine ⟨s.changeMode m, rfl, changeMode_frame s m, changeMode_entry s m, fun hm hs => ?enter,
    fun hstay => ?stay⟩
  case enter =>
    have hpath := haltPath_of_enter (s.leaveRun m) m hm (by rwa [leaveRun_mode])
    have hN : (s.leaveRun m).portN = s.portN := leaveRun_port s m .N
    have hS : (s.leaveRun m).portS = s.portS := leaveRun_port s m .S
    have hperm := enterHalted_free_perm (s.leaveRun m)
    rw [hN, hS, leaveRun_free] at hperm
    refine ⟨?_, fun p => ?_⟩
    · rwa [changeMode_free, hpath]
    · rw [changeMode_port, hpath, enterHalted_port, leaveRun_port]
  case stay =>
    have hpath := haltPath_of_stay (s.leaveRun m) m (by rwa [leaveRun_mode])
    refine ⟨?_, fun p => ?_⟩
    · rw [changeMode_free, hpath, leaveRun_free]
    · rw [changeMode_port, hpath, leaveRun_port]

/-! ### SET-MODE and HALT -/

theorem changeMode_keeps (s : State) (m : RunMode) :
    (s.changeMode m).mgmt = s.mgmt ∧ (s.changeMode m).responses = s.responses ∧
      (s.changeMode m).mgmtId = s.mgmtId := by
  rw [changeMode_frame]
  exact ⟨rfl, rfl, rfl⟩

section
variable {s : State} {m : RunMode} {code : Byte}

theorem slotSetMode_of_changed (hcode : modeOf code = some m)
    (hfree : s.freezeLow = true → m.isHalted = true) : slotSetMode code s = (s.changeMode m).done := by
  rw [slotSetMode, hcode]
  refine if_neg fun h => ?_
  exact h.2 (hfree h.1)

theorem slotSetMode_of_frozen (hcode : modeOf code = some m) (hlow : s.freezeLow = true)
    (hm : m.isHalted = false) : slotSetMode code s = s.answer .frozen := by
  rw [slotSetMode, hcode]
  exact if_pos ⟨hlow, Bool.eq_false_iff.1 hm⟩

theorem slotSetMode_of_badCode (hcode : modeOf code = none) : slotSetMode code s = s.answer .badArgument := by
  rw [slotSetMode, hcode]

theorem modeOf_of_above (h : 2 < code.toNat) : modeOf code = none := by
  unfold modeOf
  split
  case h_4 => rfl
  all_goals exact absurd h (by decide)

/-- BYPASS and RUN are the modes below code 2 (R206). -/
theorem modeOf_of_below (h : code.toNat < 2) : ∃ m, modeOf code = some m ∧ m.isHalted = false := by
  unfold modeOf
  split
  case h_1 => exact ⟨_, rfl, rfl⟩
  case h_2 => exact ⟨_, rfl, rfl⟩
  case h_3 => exact absurd h (by decide)
  case h_4 h0 h1 _ =>
    have hlt : code = 0#8 ∨ code = 1#8 := by
      rcases Nat.lt_or_ge code.toNat 1 with hz | hz
      · exact .inl (BitVec.eq_of_toNat_eq (by simp; omega))
      · exact .inr (BitVec.eq_of_toNat_eq (by simp; omega))
    rcases hlt with rfl | rfl
    · exact absurd rfl h0
    · exact absurd rfl h1

/-- A slot command at a ready unit that leaves the unit alone (R151 to R155). -/
theorem exec_setMode_of_changed {tag : Byte} (hready : s.Ready) (hcode : modeOf code = some m)
    (hfree : s.freezeLow = true → m.isHalted = true) :
    exec (.setMode tag code) s = .next ((s.changeMode m).replied tag 0x05 .done 0 []) :=
  exec_of_ready (.setMode tag code) (.setMode code) (s.changeMode m).done hready rfl rfl nofun
    (slotSetMode_of_changed hcode hfree) (changeMode_keeps s m)

theorem exec_setMode_of_refused {tag : Byte} {st : Status} (hready : s.Ready)
    (hrefused : slotSetMode code s = s.answer st) :
    exec (.setMode tag code) s = .next (s.replied tag 0x05 st 0 []) :=
  exec_of_ready (.setMode tag code) (.setMode code) (s.answer st) hready rfl rfl nofun hrefused
    ⟨rfl, rfl, rfl⟩

theorem exec_halt (tag : Byte) (hrun : s.running = true) :
    exec (.halt tag) s =
      .next ((s.changeMode (.halted .command)).respondNow ⟨s.mgmtId, tag, 0x31, .done, 0, []⟩) :=
  next_live hrun _

/-! ### The freeze input -/

theorem exec_freezeAsserted_of_high (hrun : s.running = true) (hhigh : s.freezeLow = false) :
    exec .freezeAsserted s = .next ({ s with freezeLow := true } : State).freeze := by
  have hnot : ¬s.freezeLow = true := Bool.eq_false_iff.1 hhigh
  exact (congrArg Host.Outcome.next (if_neg hnot)).trans (next_live (s := { s with freezeLow := true }) hrun _)

/-- What the assertion does beyond the change of mode: FROZEN, which may raise an ALERT (R200, R193). -/
theorem freeze_frame (s : State) :
    s.freeze =
      { s.changeMode (.halted .freeze) with
        causes := { s.causes with frozen := true }
        alertSlot := s.freeze.alertSlot
        alertNumber := s.freeze.alertNumber } := by
  have hcauses : { (s.changeMode (.halted .freeze)).causes with frozen := true } =
      { s.causes with frozen := true } := by rw [changeMode_frame]
  rw [State.freeze, ← hcauses]
  exact setFrozen_frame (s.changeMode (.halted .freeze))

theorem alerted_freeze (s : State) : s.Alerted s.freeze := by
  have hkeeps := changeMode_frame s (.halted .freeze)
  have hactive : (s.changeMode (.halted .freeze)).anyActive = s.anyActive := by
    rw [hkeeps]
    simp [State.anyActive, State.pendingCauses, RunMode.isHalted]
  have hslot : (s.changeMode (.halted .freeze)).alertSlot = s.alertSlot := by rw [hkeeps]
  have hnumber : (s.changeMode (.halted .freeze)).alertNumber = s.alertNumber := by rw [hkeeps]
  have hid : (s.changeMode (.halted .freeze)).mgmtId = s.mgmtId := by rw [hkeeps]
  rw [State.freeze, State.setFrozen]
  exact alerted_alerting s _ _ hactive hslot hnumber hid

end

/-- Settles O37. -/
theorem modeCommandsAndFreezeSetTheMode : Obligations.ModeCommandsAndFreezeSetTheMode := by
  refine ⟨⟨fun s tag hready => ⟨fun hhigh => ⟨?_, ?_⟩, ?_, fun hlow m hm => ?frozen, fun m hm => ?bad⟩,
    fun s tag hrun => ⟨fun hplace => ?placed, fun hfull => ?full⟩⟩,
    fun s hrun => ⟨fun hhigh => ?assert, fun hlow => congrArg _ (if_pos hlow), rfl⟩⟩
  · exact exec_setMode_of_changed hready rfl fun h => absurd (hhigh.symm.trans h) nofun
  · exact exec_setMode_of_changed hready rfl fun h => absurd (hhigh.symm.trans h) nofun
  · exact exec_setMode_of_changed hready rfl fun _ => rfl
  case frozen =>
    obtain ⟨mode, hcode, hmode⟩ := modeOf_of_below hm
    exact exec_setMode_of_refused hready (slotSetMode_of_frozen hcode hlow hmode)
  case bad => exact exec_setMode_of_refused hready (slotSetMode_of_badCode (modeOf_of_above hm))
  case placed =>
    obtain ⟨_, hresp, hid⟩ := changeMode_keeps s (.halted .command)
    rw [exec_halt tag hrun, respondNow_of_place _ _ (by rwa [hresp]), State.replied, hid]
  case full =>
    obtain ⟨hmgmt, hresp, _⟩ := changeMode_keeps s (.halted .command)
    rw [exec_halt tag hrun, respondNow_of_full _ _ (by rwa [hresp]), ← hmgmt]
    rfl
  case assert =>
    exact ⟨_, exec_freezeAsserted_of_high hrun hhigh, freeze_frame { s with freezeLow := true },
      by rw [freeze_frame, changeMode_frame], alerted_freeze { s with freezeLow := true }⟩

end Sys2Proof.Machine

/-! SUPPORT. Admission at the management unit (R150 to R154): which payloads name no request, where a command
is admitted, and what a refusal leaves. -/

namespace Sys2Proof.Machine

/-! ### Payloads that name no request -/

theorem length_of_parseEntryRecord {bytes : List Byte} {r : EntryRecord}
    (h : parseEntryRecord bytes = some r) : bytes.length = 16 := by
  unfold parseEntryRecord at h
  split at h
  · rfl
  · cases h

theorem length_of_parseTuneRecord {bytes : List Byte} {r : TuneRecord}
    (h : parseTuneRecord bytes = some r) : bytes.length = 7 := by
  unfold parseTuneRecord at h
  split at h
  · rfl
  · cases h

/-- No code is above RESET-WARM's (R206). -/
theorem parseArgs_of_above (k : Nat) (args : List Byte) : parseArgs (k + 51) args = none := by rfl

/-- The codes below RESET-WARM's that name no request (R206). -/
def gapCodes : List Nat := (List.range 51).filter fun n => (requestLength (BitVec.ofNat 8 n)).isNone

theorem map_parseArgs_gapCodes (args : List Byte) :
    (gapCodes.map fun n => parseArgs n args) = List.replicate 24 none := by rfl

theorem parseArgs_of_unknown {code : Byte} (args : List Byte) (h : requestLength code = none) :
    parseArgs code.toNat args = none := by
  rcases Nat.lt_or_ge code.toNat 51 with hbelow | habove
  · have hmem : code.toNat ∈ gapCodes := by
      refine List.mem_filter.2 ⟨List.mem_range.2 hbelow, ?_⟩
      rw [BitVec.ofNat_toNat, BitVec.setWidth_eq, h]
      rfl
    have hmap := List.mem_map_of_mem (f := fun n => parseArgs n args) hmem
    rw [map_parseArgs_gapCodes] at hmap
    exact List.eq_of_mem_replicate hmap
  · obtain ⟨k, hk⟩ := Nat.exists_eq_add_of_le' habove
    rw [hk, parseArgs_of_above]

/-- Arguments that spell a command have the length of its code (R151 step 1, R206). -/
theorem requestLength_of_parseArgs {code : Byte} {args : List Byte} {c : Command}
    (h : parseArgs code.toNat args = some c) : requestLength code = some (args.length + 1) := by
  cases hlength : requestLength code with
  | none => rw [parseArgs_of_unknown args hlength] at h; cases h
  | some n =>
    rw [← hlength]
    unfold requestLength at hlength ⊢
    split at hlength
    case h_28 => cases hlength
    case h_1 hcode | h_2 hcode | h_3 hcode | h_4 hcode | h_23 hcode | h_24 hcode | h_25 hcode | h_26 hcode
      | h_27 hcode =>
      rw [hcode] at h
      match args, h with
      | [], _ => rfl
    case h_5 hcode | h_7 hcode | h_10 hcode | h_11 hcode | h_13 hcode | h_14 hcode | h_15 hcode | h_16 hcode =>
      rw [hcode] at h
      match args, h with
      | [_], _ => rfl
    case h_8 hcode | h_9 hcode | h_18 hcode =>
      rw [hcode] at h
      match args, h with
      | [_, _], _ => rfl
    case h_19 hcode | h_20 hcode | h_21 hcode =>
      rw [hcode] at h
      match args, h with
      | [_, _, _], _ => rfl
    case h_6 hcode =>
      rw [hcode] at h
      match args, h with
      | [_, _, _, _, _, _, _], _ => rfl
    case h_12 hcode =>
      rw [hcode] at h
      match args, h with
      | _ :: rest, h =>
        obtain ⟨r, hr, -⟩ := Option.map_eq_some_iff.1 h
        rw [List.length_cons, length_of_parseEntryRecord hr]
    case h_17 hcode =>
      rw [hcode] at h
      match args, h with
      | _ :: rest, h =>
        obtain ⟨r, hr, -⟩ := Option.map_eq_some_iff.1 h
        rw [List.length_cons, length_of_parseTuneRecord hr]
    case h_22 hcode =>
      rw [hcode] at h
      obtain ⟨r, hr, -⟩ := Option.map_eq_some_iff.1 h
      rw [length_of_parseEntryRecord hr]

theorem parseCommand_of_badPayload {payload : List Byte} (h : badPayload payload = true) :
    parseCommand payload = none := by
  cases payload with
  | nil => rfl
  | cons code args =>
    rw [parseCommand, Option.eq_none_iff_forall_ne_some]
    intro c hc
    simp [badPayload, requestLength_of_parseArgs hc] at h

/-! ### Answers at once -/

/-- An answer to a request that is in no slot is placed at once, or the request is counted unanswered
(R154). -/
theorem respondNow_refusal (s : State) (tag code : Byte) (st : Status) :
    s.respondNow ⟨s.mgmtId, tag, code, st, 0, []⟩ =
      if s.responses.length < 8 then s.replied tag code st 0 []
      else { s with mgmt := { s.mgmt with unanswered := satInc s.mgmt.unanswered } } := by
  split
  next hplace => exact respondNow_of_place s _ hplace
  next hfull => exact respondNow_of_full s _ (Nat.not_lt.1 hfull)

theorem exec_badCommand {s : State} (tag : Byte) {payload : List Byte} (hrun : s.running = true)
    (hbad : badPayload payload = true) :
    exec (.badCommand tag payload) s =
      .next (s.respondNow ⟨s.mgmtId, tag, payload.headD 0, .badCommand, 0, []⟩) := by
  refine (next_live hrun fun s => s.takePayload tag payload).trans ?_
  rw [State.takePayload, parseCommand_of_badPayload hbad, State.refuseBad]

theorem exec_loadData {s : State} (tag : Byte) (r : EntryRecord) (hrun : s.running = true) :
    exec (.loadData tag r) s = .next (s.admitLoadData ⟨s.mgmtId, tag, .loadData r⟩ r) :=
  next_live hrun _

theorem admitLoadData_of_notLoading {s : State} (req : Request) (r : EntryRecord)
    (hexec : s.mgmt.NotLoading) : s.admitLoadData req r = s.respondNow (req.reply .notLoading 0 []) := by
  unfold State.admitLoadData
  split
  next bulk h => exact absurd h (hexec bulk)
  next => rfl

/-! ### Slot commands -/

theorem whileHeld_iff (c : Command) :
    whileHeld c = true ↔ c = .identify ∨ c = .readStatus ∨ c = .readAlerts ∨ c = .ackEvent := by
  cases c <;> simp [whileHeld]

theorem takeRequest_slot (s : State) {req : Request} (hslot : isSlotCommand req.cmd = true) :
    s.takeRequest req = s.admitSlot req := by
  unfold State.takeRequest
  split
  next h => rw [h] at hslot; cases hslot
  next h => rw [h] at hslot; cases hslot
  next h => rw [h] at hslot; cases hslot
  next h => rw [h] at hslot; cases hslot
  next => rfl

theorem exec_request {s : State} {row : Instr} {tag : Byte} {c : Command}
    (hrow : requestOf row = some (tag, c)) (hrun : s.running = true) :
    exec row s = .next (s.takeRequest ⟨s.mgmtId, tag, c⟩) := by
  rw [exec_of_requestOf s hrow, arrive, live_of_running s _ hrun, State.takeCommand]

section
variable {s : State} {req : Request}

theorem admitSlot_of_held (hheld : s.mgmt.heldEvent = true) (hcmd : whileHeld req.cmd = false) :
    s.admitSlot req = s.respondNow (req.reply .held 0 []) :=
  if_pos ⟨hheld, Bool.eq_false_iff.1 hcmd⟩

/-- A slot command that HELD does not refuse goes by what the slots hold (R151 step 5). -/
theorem admitSlot_of_admitted (hheld : s.mgmt.heldEvent = true → whileHeld req.cmd = true) :
    (s.mgmt.executing = none → s.admitSlot req = (s.execute req).moveUp) ∧
      (s.mgmt.executing ≠ none → s.mgmt.waiting = none →
        s.admitSlot req = s.modMgmt fun m => { m with waiting := some req }) ∧
      (s.mgmt.executing ≠ none → s.mgmt.waiting ≠ none →
        s.admitSlot req = s.respondNow (req.reply .busy 0 [])) := by
  have hno : ¬(s.mgmt.heldEvent = true ∧ ¬whileHeld req.cmd = true) := fun h => h.2 (hheld h.1)
  rw [State.admitSlot, if_neg hno]
  refine ⟨fun hexec => ?_, fun hexec hwait => ?_, fun hexec hwait => ?_⟩
  · rw [hexec]
  · obtain ⟨x, hx⟩ := Option.ne_none_iff_exists'.1 hexec
    rw [hx, hwait]
  · obtain ⟨x, hx⟩ := Option.ne_none_iff_exists'.1 hexec
    obtain ⟨y, hy⟩ := Option.ne_none_iff_exists'.1 hwait
    rw [hx, hy]

theorem execute_waiting : (s.execute req).mgmt.waiting = s.mgmt.waiting := by
  unfold State.execute
  split
  next start count _ =>
    unfold State.runBulkLoad
    split
    next => exact finish_waiting _
    next => rfl
  next => exact (finish_waiting _).trans (runSlot_waiting req.cmd)

theorem execute_of_slot (hbulk : ∀ st n, req.cmd ≠ .bulkLoad st n) :
    s.execute req =
      (runSlot req.cmd s).state.finish (req.reply (runSlot req.cmd s).status 0 (runSlot req.cmd s).data) := by
  unfold State.execute
  split
  next st n h => exact absurd h (hbulk st n)
  next => rfl

/-- With nothing waiting a completion only finishes the command (R152, R153). -/
theorem finish_eq_completed (r : Response) (hwait : s.mgmt.waiting = none) : s.finish r = s.completed r := by
  rw [← complete_eq_completed, State.complete, moveUp_of_none _ ((finish_waiting r).trans hwait)]

end

/-- HELD refuses no slot command, or it is one of the four (R151 step 4). -/
theorem admitted_of_or {s : State} {c : Command}
    (h : s.mgmt.heldEvent = false ∨ (c = .identify ∨ c = .readStatus ∨ c = .readAlerts ∨ c = .ackEvent)) :
    s.mgmt.heldEvent = true → whileHeld c = true := by
  rcases h with hfree | hcmd
  · exact fun hheld => absurd (hfree.symm.trans hheld) nofun
  · exact fun _ => (whileHeld_iff c).2 hcmd

/-- Settles O40. -/
theorem admissionRefusesOrWaits : Obligations.AdmissionRefusesOrWaits := by
  intro s refuse hrun hrefuse
  have hplaced (tag code : Byte) (st : Status) :
      s.respondNow ⟨s.mgmtId, tag, code, st, 0, []⟩ = refuse tag code st :=
    (respondNow_refusal s tag code st).trans (hrefuse tag code st).symm
  refine ⟨fun tag payload hbad => ?_, fun tag r hexec => ?_, fun c tag cmd hrow hslot =>
    ⟨fun hheld h1 h2 h3 h4 => ?_, fun hadmit => ⟨fun hexec hwait => ?_, fun hexec hwait => ?_⟩⟩⟩
  · rw [exec_badCommand tag hrun hbad, hplaced]
  · rw [exec_loadData tag r hrun, admitLoadData_of_notLoading _ r hexec]
    exact congrArg _ (hplaced tag 0x21 .notLoading)
  all_goals rw [exec_request hrow hrun, takeRequest_slot s hslot]
  · have hcmd : whileHeld cmd = false := by
      rw [Bool.eq_false_iff, ne_eq, whileHeld_iff]
      simp [h1, h2, h3, h4]
    rw [admitSlot_of_held hheld hcmd]
    exact congrArg _ (hplaced tag cmd.code .held)
  · obtain ⟨_, hwaits, _⟩ := admitSlot_of_admitted (req := ⟨s.mgmtId, tag, cmd⟩) (admitted_of_or hadmit)
    rw [hwaits hexec hwait, State.modMgmt]
  · obtain ⟨_, _, hbusy⟩ := admitSlot_of_admitted (req := ⟨s.mgmtId, tag, cmd⟩) (admitted_of_or hadmit)
    rw [hbusy hexec hwait]
    exact congrArg _ (hplaced tag cmd.code .busy)

/-! ### Completion -/

theorem takeCompletion_of_notBuilt {s : State} (hexec : ∀ r, s.mgmt.executing ≠ some (.built r)) :
    s.takeCompletion = s := by
  unfold State.takeCompletion
  split
  next r h => exact absurd h (hexec r)
  next => rfl

theorem takeCompletion_of_built {s : State} {r : Response} (hexec : s.mgmt.executing = some (.built r)) :
    s.takeCompletion = if s.hasPlace then s.completed r else s := by
  rw [State.takeCompletion, hexec, ← complete_eq_completed]

/-- Settles O41. -/
theorem completionWaitsForAPlace : Obligations.CompletionWaitsForAPlace := by
  refine ⟨fun s c tag cmd hrow hslot hrun hadmit hexec hwait => ?_, fun s hrun hexec => ?_,
    fun s r hrun hexec => ⟨fun hfull => ?_, fun hplace => ?_⟩⟩
  · obtain ⟨hempty, _⟩ := admitSlot_of_admitted (req := ⟨s.mgmtId, tag, cmd⟩) (admitted_of_or hadmit)
    rw [exec_request hrow hrun, takeRequest_slot s hslot, hempty hexec,
      moveUp_of_none _ (execute_waiting.trans hwait)]
    refine ⟨rfl, fun hbulk => ?_⟩
    rw [execute_of_slot hbulk, finish_eq_completed _ ((runSlot_waiting cmd).trans hwait), Request.reply]
  all_goals refine (next_live hrun State.takeCompletion).trans ?_
  · rw [takeCompletion_of_notBuilt hexec]
  · rw [takeCompletion_of_built hexec, hasPlace_of_full s hfull]
    rfl
  · rw [takeCompletion_of_built hexec, (hasPlace_iff s).2 hplace]
    rfl

/-! ### The arrival of a request -/

/-- A request of the part's own arriving in its frame (R16, R150). -/
theorem exec_eof_of_request {s : State} {b : BufId} {f : Frame} (h : s.Filling .N b)
    (hparse : parseFrame s.contents[b] = some f) (hkind : f.kind = .mgmtReq) (hid : f.streamId = s.mgmtId) :
    exec (.eof .N) s = .next (((s.received .N).release b).takePayload f.seq f.payload) := by
  have hown : (s.received .N).ownRequest .N f = true := by
    rw [ownRequest_received, State.ownRequest, hkind, hid]
    simp
  rw [exec_eof_intact h hparse, State.handOff, if_neg (by rw [hkind]; nofun), if_neg (by rw [hkind]; nofun),
    if_pos hown]

/-- Settles O39. -/
theorem requestRowsAreArrivals : Obligations.RequestRowsAreArrivals := by
  refine ⟨fun c tag cmd s hrow hrun => exec_request hrow hrun,
    fun s b f c cmd h hparse hkind hid hpayload hrow => ?_⟩
  obtain ⟨hrun, -⟩ := id h
  have hrelease : ({ s.received .N with free := b :: s.free } : State) = (s.received .N).release b := rfl
  have hrun' : ((s.received .N).release b).running = true := hrun
  rw [hrelease, exec_eof_of_request h hparse hkind hid, exec_request hrow hrun', State.takePayload, hpayload,
    parseCommand_payload]
  rfl

end Sys2Proof.Machine

/-! PROOF. WRITE-ENTRY (R21 to R23): the entry a record gives, which records give one, the checks of an
entry write in their order, and O45 from them. -/

namespace Sys2Proof.Machine

/-! ### The tracker a record gives -/

/-- A tracker at rest: armed with its base exponent and its seed (R71). -/
def Tracker.Resting (t : Tracker) : Prop :=
  t.exp = t.baseExp ∧ t.last = t.seed ∧ t.prev = t.seed ∧ t.elapsed = 0 ∧ t.misses = 0 ∧ t.preload = none ∧
    t.scaleUp = false ∧ t.scaleDown = false ∧ t.scaleLimit = false

/-- The settings of a tracker are those a record carries (R206). -/
def Tracker.Carries (t : Tracker) (r : EntryRecord) : Prop :=
  rangeOf 0 15 r.exponent = some t.baseExp ∧ rangeOf 1 255 r.seed = some t.seed ∧
    rangeOf 1 255 r.weight = some t.weight ∧ basisOf r.basis = some t.basis ∧
    rangeOf 1 255 r.fixedDeadline = some t.fixedDeadline ∧ rangeOf 1 15 r.missLimit = some t.missLimit ∧
    gapPolicyOf r.gapPolicy = some t.gapPolicy

theorem arm_of_resting {t : Tracker} (h : t.Resting) : t.arm = t.settle false := by
  cases t
  dsimp only [Tracker.Resting] at h
  obtain ⟨rfl, rfl, rfl, rfl, rfl, rfl, rfl, rfl, rfl⟩ := h
  rw [Tracker.arm, rebased_of_eq _ rfl]

theorem settle_settle (t : Tracker) : (t.settle false).settle false = t.settle false := by
  cases h : t.mode with
  | learn =>
    rw [settle_of_learn t false h]
    exact settle_of_learn _ false h
  | fixed =>
    rw [settle_of_fixed t false h]
    exact settle_of_fixed _ false h

section
variable {r : EntryRecord} {m : TrackMode}

theorem carries_of_trackerOf {t : Tracker} (h : trackerOf r m = some t) :
    t.mode = m ∧ t.Carries r ∧ t.Resting := by
  simp only [trackerOf, Option.bind_eq_bind, Option.bind_eq_some_iff, Option.pure_def,
    Option.some.injEq] at h
  obtain ⟨exp, hexp, seed, hseed, weight, hweight, basis, hbasis, fixed, hfixed, limit, hlimit, gap, hgap,
    rfl⟩ := h
  exact ⟨rfl, ⟨hexp, hseed, hweight, hbasis, hfixed, hlimit, hgap⟩, ⟨rfl, rfl, rfl, rfl, rfl, rfl, rfl, rfl, rfl⟩⟩

theorem trackerOf_isSome :
    (trackerOf r m).isSome = true ↔
      r.exponent.toNat ≤ 15 ∧ r.seed ≠ 0 ∧ r.weight ≠ 0 ∧ r.basis.toNat ≤ 1 ∧ r.fixedDeadline ≠ 0 ∧
        (1 ≤ r.missLimit.toNat ∧ r.missLimit.toNat ≤ 15) ∧ r.gapPolicy.toNat ≤ 1 := by
  rw [← rangeOf_nonzero_isSome, ← rangeOf_nonzero_isSome, ← basisOf_isSome, ← rangeOf_nonzero_isSome,
    ← rangeOf_isSome, ← gapPolicyOf_isSome]
  have hexp : r.exponent.toNat ≤ 15 ↔ (rangeOf 0 15 r.exponent).isSome = true := by
    rw [rangeOf_isSome]
    exact (and_iff_right (Nat.zero_le _)).symm
  rw [hexp]
  simp only [Option.isSome_iff_exists]
  constructor
  · rintro ⟨t, h⟩
    obtain ⟨-, ⟨hexp, hseed, hweight, hbasis, hfixed, hlimit, hgap⟩, -⟩ := carries_of_trackerOf h
    exact ⟨⟨_, hexp⟩, ⟨_, hseed⟩, ⟨_, hweight⟩, ⟨_, hbasis⟩, ⟨_, hfixed⟩, ⟨_, hlimit⟩, ⟨_, hgap⟩⟩
  · rintro ⟨⟨_, hexp⟩, ⟨_, hseed⟩, ⟨_, hweight⟩, ⟨_, hbasis⟩, ⟨_, hfixed⟩, ⟨_, hlimit⟩, ⟨_, hgap⟩⟩
    rw [trackerOf, hexp, hseed, hweight, hbasis, hfixed, hlimit, hgap]
    exact ⟨_, rfl⟩

theorem cadencePartOf_of_off (h : r.cadenceMode = 0) : cadencePartOf r = some none := by
  rw [cadencePartOf, (cadenceOf_off _).2 h]

theorem cadencePartOf_of_mode (h : trackModeCode m = r.cadenceMode) :
    cadencePartOf r = (trackerOf r m).map fun t => some t.arm := by
  rw [cadencePartOf, (cadenceOf_some _ m).2 h]

/-- The cadence mode of a record is OFF, a tracker mode's code, or out of range (R206). -/
theorem cadenceMode_cases (x : Byte) :
    x = 0 ∧ x.toNat ≤ 2 ∨ (x ≠ 0 ∧ x.toNat ≤ 2 ∧ ∃ m, trackModeCode m = x) ∨ 2 < x.toNat ∧ cadenceOf x = none := by
  rcases h : cadenceOf x with _ | (_ | m)
  · refine .inr (.inr ⟨?_, rfl⟩)
    rw [← Nat.not_le, ← cadenceOf_isSome, h]
    nofun
  · have hx := (cadenceOf_off x).1 h
    exact .inl ⟨hx, hx ▸ by decide⟩
  · have hx := (cadenceOf_some x m).1 h
    exact .inr (.inl (by cases m <;> subst hx <;> exact ⟨by decide, by decide, _, rfl⟩))

theorem cadencePartOf_isSome :
    (cadencePartOf r).isSome = true ↔
      r.cadenceMode.toNat ≤ 2 ∧
        (r.cadenceMode ≠ 0 →
          r.exponent.toNat ≤ 15 ∧ r.seed ≠ 0 ∧ r.weight ≠ 0 ∧ r.basis.toNat ≤ 1 ∧ r.fixedDeadline ≠ 0 ∧
            (1 ≤ r.missLimit.toNat ∧ r.missLimit.toNat ≤ 15) ∧ r.gapPolicy.toNat ≤ 1) := by
  rcases cadenceMode_cases r.cadenceMode with ⟨hoff, hle⟩ | ⟨hne, hle, m, hm⟩ | ⟨hgt, hnone⟩
  · rw [cadencePartOf_of_off hoff]
    exact iff_of_true rfl ⟨hle, fun hne => absurd hoff hne⟩
  · rw [cadencePartOf_of_mode hm, Option.isSome_map, trackerOf_isSome]
    exact ⟨fun h => ⟨hle, fun _ => h⟩, fun ⟨_, h⟩ => h hne⟩
  · rw [cadencePartOf, hnone]
    exact iff_of_false nofun fun ⟨hle, _⟩ => absurd hgt (Nat.not_lt.2 hle)

/-- The tracker of a record is the armed tracker with its settings (R22, R71). -/
theorem tracker_of_cadencePartOf {o : Option Tracker} (h : cadencePartOf r = some o) :
    (r.cadenceMode = 0 ↔ o = none) ∧
      ∀ t, o = some t → ∃ t0 : Tracker, t = t0.settle false ∧ trackModeCode t0.mode = r.cadenceMode ∧
        t0.Carries r ∧ t0.Resting := by
  rcases cadenceMode_cases r.cadenceMode with ⟨hoff, -⟩ | ⟨hne, -, m, hm⟩ | ⟨-, hnone⟩
  · rw [cadencePartOf_of_off hoff] at h
    obtain rfl := Option.some.inj h
    exact ⟨iff_of_true hoff rfl, fun t ht => nomatch ht⟩
  · rw [cadencePartOf_of_mode hm] at h
    obtain ⟨t0, ht0, rfl⟩ := Option.map_eq_some_iff.1 h
    obtain ⟨rfl, hcarries, hrest⟩ := carries_of_trackerOf ht0
    refine ⟨iff_of_false hne nofun, fun t ht => ⟨t0, ?_, hm, hcarries, hrest⟩⟩
    rw [← Option.some.inj ht, arm_of_resting hrest]
  · rw [cadencePartOf, hnone] at h
    cases h

end

/-! ### The entry a record gives -/

/-- A record gives an entry exactly when each of its fields passes its test (R22, R23). -/
theorem entryOf_eq_some_iff (r : EntryRecord) (e : Entry) :
    entryOf r = some e ↔
      (portOf r.keyPort = some e.keyPort ∧ streamIdOf r.streamId = some e.streamId ∧
          actionOf r.action = some e.action ∧ classOf r.cls = some e.cls ∧ groupOf r.group = some e.group ∧
          switchOf r.seqCheck = some e.seqCheck ∧ cadencePartOf r = some e.tracker) ∧
        e.state = (if r.armFlag.getLsbD 0 then .armed else .suspended) ∧ e.expSeq = none ∧
        e.counters = .zero := by
  simp only [entryOf, Option.bind_eq_bind, Option.bind_eq_some_iff, Option.pure_def, Option.some.injEq]
  constructor
  · rintro ⟨p, hp, sid, hsid, act, hact, cls, hcls, g, hg, sq, hsq, t, ht, rfl⟩
    exact ⟨⟨hp, hsid, hact, hcls, hg, hsq, ht⟩, rfl, rfl, rfl⟩
  · rintro ⟨⟨hp, hsid, hact, hcls, hg, hsq, ht⟩, hstate, hexp, hcounters⟩
    refine ⟨_, hp, _, hsid, _, hact, _, hcls, _, hg, _, hsq, _, ht, ?_⟩
    rw [← hstate, ← hexp, ← hcounters]

theorem entryOf_isSome (r : EntryRecord) :
    (entryOf r).isSome ↔
      r.keyPort.toNat ≤ 1 ∧ r.streamId.toNat ≤ 4095 ∧ r.action.toNat ≤ 2 ∧ r.cls.toNat ≤ 1 ∧
        r.group.toNat ≤ 7 ∧ r.seqCheck.toNat ≤ 1 ∧ r.cadenceMode.toNat ≤ 2 ∧
        (r.cadenceMode ≠ 0 →
          r.exponent.toNat ≤ 15 ∧ r.seed ≠ 0 ∧ r.weight ≠ 0 ∧ r.basis.toNat ≤ 1 ∧ r.fixedDeadline ≠ 0 ∧
            (1 ≤ r.missLimit.toNat ∧ r.missLimit.toNat ≤ 15) ∧ r.gapPolicy.toNat ≤ 1) := by
  rw [← cadencePartOf_isSome, ← portOf_isSome, ← streamIdOf_isSome, ← actionOf_isSome, ← classOf_isSome,
    ← groupOf_isSome, ← switchOf_isSome]
  simp only [Option.isSome_iff_exists, entryOf_eq_some_iff]
  constructor
  · rintro ⟨e, ⟨hp, hsid, hact, hcls, hg, hsq, ht⟩, -⟩
    exact ⟨⟨_, hp⟩, ⟨_, hsid⟩, ⟨_, hact⟩, ⟨_, hcls⟩, ⟨_, hg⟩, ⟨_, hsq⟩, ⟨_, ht⟩⟩
  · rintro ⟨⟨p, hp⟩, ⟨sid, hsid⟩, ⟨act, hact⟩, ⟨cls, hcls⟩, ⟨g, hg⟩, ⟨sq, hsq⟩, ⟨t, ht⟩⟩
    exact ⟨⟨_, p, sid, act, cls, g, sq, none, t, .zero⟩, ⟨hp, hsid, hact, hcls, hg, hsq, ht⟩, rfl, rfl, rfl⟩

/-- The fields of the tracker a record gives (R22, R71, R206). -/
theorem fields_of_carries {r : EntryRecord} {t : Tracker} (hmode : trackModeCode t.mode = r.cadenceMode)
    (hcarries : t.Carries r) (hrest : t.Resting) (hsettled : t = t.settle false) :
    trackModeCode t.mode = r.cadenceMode ∧ t.baseExp = r.exponent.toNat ∧ t.seed = r.seed.toNat ∧
      t.weight = r.weight.toNat ∧ basisCode t.basis = r.basis ∧ t.fixedDeadline = r.fixedDeadline.toNat ∧
      t.missLimit = r.missLimit.toNat ∧ gapPolicyCode t.gapPolicy = r.gapPolicy ∧
      t.exp = r.exponent.toNat ∧ t.last = r.seed.toNat ∧ t.prev = r.seed.toNat ∧ t.elapsed = 0 ∧
      t.misses = 0 ∧ t.preload = none ∧ t.scaleUp = false ∧ t.scaleDown = false ∧ t.scaleLimit = false ∧
      t = t.settle false := by
  obtain ⟨hexp, hseed, hweight, hbasis, hfixed, hlimit, hgap⟩ := hcarries
  obtain ⟨hrun, hlast, hprev, helapsed, hmisses, hpre, hup, hdown, hlim⟩ := hrest
  obtain ⟨-, hexp⟩ := (rangeOf_eq _ _ _ _).1 hexp
  obtain ⟨-, hseed⟩ := (rangeOf_eq _ _ _ _).1 hseed
  obtain ⟨-, hweight⟩ := (rangeOf_eq _ _ _ _).1 hweight
  obtain ⟨-, hfixed⟩ := (rangeOf_eq _ _ _ _).1 hfixed
  obtain ⟨-, hlimit⟩ := (rangeOf_eq _ _ _ _).1 hlimit
  exact ⟨hmode, hexp.symm, hseed.symm, hweight.symm, (basisOf_eq _ _).1 hbasis, hfixed.symm, hlimit.symm,
    (gapPolicyOf_eq _ _).1 hgap, hrun.trans hexp.symm, hlast.trans hseed.symm, hprev.trans hseed.symm, helapsed, hmisses,
    hpre, hup, hdown, hlim, hsettled⟩

/-- Settling leaves the settings and the rest as they are (R67 to R70). -/
theorem carries_settle {r : EntryRecord} {t : Tracker} (sat : Bool) :
    ((t.settle sat).mode = t.mode) ∧ ((t.settle sat).Carries r ↔ t.Carries r) ∧
      ((t.settle sat).Resting ↔ t.Resting) := by
  cases h : t.mode with
  | learn =>
    rw [settle_of_learn t sat h]
    exact ⟨h, Iff.rfl, Iff.rfl⟩
  | fixed =>
    rw [settle_of_fixed t sat h]
    exact ⟨h, Iff.rfl, Iff.rfl⟩

theorem fields_of_entryOf {r : EntryRecord} {e : Entry} (h : entryOf r = some e) :
    portCode e.keyPort = r.keyPort ∧ e.streamId.toNat = r.streamId.toNat ∧ actionCode e.action = r.action ∧
      classCode e.cls = r.cls ∧ e.group.val = r.group.toNat ∧ (e.seqCheck = true ↔ r.seqCheck = 1) ∧
      e.expSeq = none ∧ e.counters = ⟨0, 0, 0, 0, 0, 0, 0⟩ ∧
      e.state = (if r.armFlag.getLsbD 0 then .armed else .suspended) ∧ cadencePartOf r = some e.tracker := by
  obtain ⟨⟨hp, hsid, hact, hcls, hg, hsq, ht⟩, hstate, hexp, hcounters⟩ := (entryOf_eq_some_iff r e).1 h
  obtain ⟨-, hsq⟩ := (switchOf_eq _ _).1 hsq
  exact ⟨(portOf_eq _ _).1 hp, (streamIdOf_eq _ _).1 hsid, (actionOf_eq _ _).1 hact, (classOf_eq _ _).1 hcls,
    (groupOf_eq _ _).1 hg, hsq, hexp, hcounters, hstate, ht⟩

/-! ### The checks in their order -/

section
variable {s : State} {i : Byte} {r : EntryRecord} {e : Entry}

theorem lockedAt_iff :
    ((s.entry i).map s.lockedEntry).getD false = true ↔
      ∃ old, s.entry i = some old ∧ s.groupLocks[old.group] = true := by
  cases s.entry i <;> simp [State.lockedEntry]

theorem activeAt_iff :
    ((s.entry i).map fun old => old.state.active).getD false = true ↔
      ∃ old, s.entry i = some old ∧ old.state ≠ .suspended := by
  cases s.entry i with
  | none => simp
  | some old =>
    simp only [Option.map_some, Option.getD_some, Option.some.injEq, exists_eq_left']
    exact ⟨fun h hs => absurd (active_of_eq_suspended hs) (by rw [h]; nofun), active_of_ne_suspended⟩

theorem checkWrite_of_badRecord (h : entryOf r = none) : s.checkWrite i r = .error .badArgument := by
  rw [State.checkWrite, h]

theorem checkWrite_of_ownKey (h : entryOf r = some e) (hown : e.keyPort = .N ∧ e.streamId = s.mgmtId) :
    s.checkWrite i r = .error .badArgument := by
  rw [State.checkWrite, h]
  exact if_pos hown

variable {locked active dup : Prop}

/-- What an entry write answers once the record gives an entry whose key is not the unit's (R23). -/
theorem checkWrite_of_entry (h : entryOf r = some e) (hown : ¬(e.keyPort = .N ∧ e.streamId = s.mgmtId))
    (hlocked : locked ↔ s.groupLocks[e.group] = true ∨
      ∃ old, s.entry i = some old ∧ s.groupLocks[old.group] = true)
    (hactive : active ↔ ∃ old, s.entry i = some old ∧ old.state ≠ .suspended)
    (hdup : dup ↔ ∃ j x, j ≠ i ∧ s.entry j = some x ∧ x.keyPort = e.keyPort ∧ x.streamId = e.streamId) :
    (locked → s.checkWrite i r = .error .locked) ∧
      (¬locked → active → s.checkWrite i r = .error .entryState) ∧
      (¬locked → ¬active → dup → s.checkWrite i r = .error .duplicateKey) ∧
      (¬locked → ¬active → ¬dup → s.checkWrite i r = .ok e) := by
  rw [← lockedAt_iff, or_comm] at hlocked
  rw [← activeAt_iff] at hactive
  rw [← keyHeldElsewhere_iff] at hdup
  rw [State.checkWrite, h]
  dsimp only
  rw [if_neg hown]
  exact ⟨fun hl => if_pos (hlocked.1 hl),
    fun hl ha => (if_neg (mt hlocked.2 hl)).trans (if_pos (hactive.1 ha)),
    fun hl ha hd => (if_neg (mt hlocked.2 hl)).trans ((if_neg (mt hactive.2 ha)).trans (if_pos (hdup.1 hd))),
    fun hl ha hd => (if_neg (mt hlocked.2 hl)).trans ((if_neg (mt hactive.2 ha)).trans (if_neg (mt hdup.2 hd)))⟩

theorem exec_writeEntry_of_refused {tag : Byte} {st : Status} (hready : s.Ready)
    (hcheck : s.checkWrite i r = .error st) :
    exec (.writeEntry tag i r) s = .next (s.replied tag 0x10 st 0 []) :=
  exec_of_ready (.writeEntry tag i r) (.writeEntry i r) (s.answer st) hready rfl rfl nofun
    (by rw [runSlot, slotWriteEntry, hcheck]) ⟨rfl, rfl, rfl⟩

theorem exec_writeEntry_of_written {tag : Byte} (hready : s.Ready) (hcheck : s.checkWrite i r = .ok e) :
    exec (.writeEntry tag i r) s = .next ((s.setEntry i (some e)).replied tag 0x10 .done 0 []) :=
  exec_of_ready (.writeEntry tag i r) (.writeEntry i r) (s.setEntry i (some e)).done hready rfl rfl nofun
    (by rw [runSlot, slotWriteEntry, hcheck]) ⟨rfl, rfl, rfl⟩

end

/-- Settles O45. -/
theorem writeEntryChecksAndWrites : Obligations.WriteEntryChecksAndWrites := by
  refine ⟨portCodes, entryFieldCodes, ⟨entryOf_isSome, fun r e h => ?fields⟩, fun s tag i r hready =>
    ⟨fun hbad => exec_writeEntry_of_refused hready (checkWrite_of_badRecord hbad), fun e he =>
      ⟨fun hown => exec_writeEntry_of_refused hready (checkWrite_of_ownKey he hown),
        fun hown locked active dup hlocked hactive hdup => ?checks⟩⟩⟩
  case fields =>
    obtain ⟨hp, hsid, hact, hcls, hg, hsq, hexp, hcounters, hstate, hcadence⟩ := fields_of_entryOf h
    obtain ⟨hoff, htracker⟩ := tracker_of_cadencePartOf hcadence
    refine ⟨hp, hsid, hact, hcls, hg, hsq, hexp, hcounters, hstate, hoff, fun t ht => ?_⟩
    obtain ⟨t0, rfl, hmode, hcarries, hrest⟩ := htracker t ht
    obtain ⟨hkeepMode, hkeepCarries, hkeepRest⟩ := carries_settle (r := r) (t := t0) false
    exact fields_of_carries (hkeepMode ▸ hmode) (hkeepCarries.2 hcarries) (hkeepRest.2 hrest)
      (settle_settle t0).symm
  case checks =>
    obtain ⟨hl, ha, hd, hok⟩ := checkWrite_of_entry he hown hlocked hactive hdup
    exact ⟨fun h => exec_writeEntry_of_refused hready (hl h),
      fun h h' => exec_writeEntry_of_refused hready (ha h h'),
      fun h h' h'' => exec_writeEntry_of_refused hready (hd h h' h''),
      fun h h' h'' => exec_writeEntry_of_written hready (hok h h' h'')⟩

end Sys2Proof.Machine

/-! PROOF. FIND-ENTRY, READ-LAPSES and READ-DIVERTED (R20, R58, R113, R180, R181), SET-GATE (R31, R32),
SET-LOCK, SET-IDENT and SEND-LINE-RESET (R33, R186 to R188): the effect of each by its checks, and O49, O51,
O52 and O53 from them. -/

namespace Sys2Proof.Machine

/-! ### FIND-ENTRY -/

/-- Under the key law the holder of a key is the one the lookup finds (R20, R21). -/
theorem lookup_of_keyLaw {s : State} (hs : s.KeyLaw) {i : Byte} {e : Entry} (he : s.entry i = some e) :
    s.lookup e.keyPort e.streamId = some i := by
  cases hfound : s.lookup e.keyPort e.streamId with
  | none => exact absurd ⟨rfl, rfl⟩ ((lookup_eq_none_iff s _ _).1 hfound i e he)
  | some j =>
    obtain ⟨f, hf, hport, hid⟩ := holdsKey_of_lookup s _ _ j hfound
    obtain ⟨hkeys, _⟩ := hs
    rw [hkeys j i f e hf he hport hid]

section
variable {s : State} {p : Port} {q : Byte} {id : Word16}

theorem slotFindEntry_of_badArgument (h : 1 < q.toNat ∨ 4095 < id.toNat) :
    slotFindEntry q id s = s.answer .badArgument := by
  unfold slotFindEntry
  split
  next p sid hp hsid =>
    have hq := (portOf_isSome q).1 (by rw [hp]; rfl)
    have hid := (streamIdOf_isSome id).1 (by rw [hsid]; rfl)
    omega
  next => rfl

theorem streamIdOf_of_le (h : id.toNat ≤ 4095) : streamIdOf id = some (id.setWidth 12) := if_pos h

theorem slotFindEntry_of_none (hq : portCode p = q) (hid : id.toNat ≤ 4095)
    (h : s.lookup p (id.setWidth 12) = none) : slotFindEntry q id s = s.answer .empty := by
  rw [slotFindEntry, (portOf_eq q p).2 hq, streamIdOf_of_le hid]
  dsimp only
  rw [h]

theorem slotFindEntry_of_some {i : Byte} {e : Entry} (hq : portCode p = q) (hid : id.toNat ≤ 4095)
    (h : s.lookup p (id.setWidth 12) = some i) (he : s.entry i = some e) :
    slotFindEntry q id s = ⟨.done, [i, stateCode e.state], s⟩ := by
  rw [slotFindEntry, (portOf_eq q p).2 hq, streamIdOf_of_le hid]
  dsimp only
  rw [h]
  dsimp only
  rw [he]

end

/-- Settles O49. -/
theorem findEntryLooksUpTheKey : Obligations.FindEntryLooksUpTheKey := by
  refine ⟨portCodes, stateCodes, fun s p sid => ⟨fun hs i e he hport hid => ?_, (lookup_eq_none_iff s p sid).2⟩,
    fun s tag hready q id => ?_⟩
  · subst hport hid
    exact lookup_of_keyLaw hs he
  · have row {r : SlotResult} := exec_of_ready (.findEntry tag q id) (.findEntry q id) r hready rfl rfl nofun
    exact ⟨fun hbad => row (slotFindEntry_of_badArgument hbad) ⟨rfl, rfl, rfl⟩, fun p hq hid =>
      ⟨fun hnone => row (slotFindEntry_of_none hq hid hnone) ⟨rfl, rfl, rfl⟩,
        fun i e hfound he => row (slotFindEntry_of_some hq hid hfound he) ⟨rfl, rfl, rfl⟩⟩⟩

/-! ### READ-LAPSES and READ-DIVERTED -/

theorem slotReadLapses_of_empty {s : State} (hlist : s.lapseList = []) (hflag : s.lapseOverflow = false) :
    slotReadLapses s = s.answer .empty :=
  if_pos ⟨by rw [hlist]; rfl, Bool.eq_false_iff.1 hflag⟩

theorem slotReadLapses_of_some {s : State} (h : s.lapseList ≠ [] ∨ s.lapseOverflow = true) :
    slotReadLapses s =
      ⟨.done,
        [BitVec.ofNat 8 (min 8 s.lapseList.length), (if s.lapseOverflow then 1 else 0),
          BitVec.ofNat 8 (s.lapseList.length - 8)] ++ s.lapseList.take 8,
        { s with lapseList := s.lapseList.drop 8, lapseOverflow := false }⟩ := by
  have hno : ¬(s.lapseList.isEmpty = true ∧ ¬s.lapseOverflow = true) := by
    rintro ⟨hempty, hflag⟩
    rcases h with hlist | hover
    · exact hlist (List.isEmpty_iff.1 hempty)
    · exact hflag hover
  rw [slotReadLapses, if_neg hno]
  dsimp only
  rw [countByte, countByte, List.length_take, List.length_drop]
  rfl

theorem shift_kindByte (b : Byte) : b >>> 4 = BitVec.ofNat 8 (b.toNat / 16) := by
  revert b
  decide

/-- What READ-DIVERTED says of an intact frame (R181). -/
theorem divertedBytes_of_parseFrame (d : DivertDescr) {bytes : List Byte} {f : Frame}
    (h : parseFrame bytes = some f) :
    divertedBytes d bytes =
      [portCode d.ingress, (if d.entry = none then 0 else 1), d.entry.getD 0, BitVec.ofNat 8 f.kind.code] ++
          be16 (f.streamId.setWidth 16) ++
          [f.seq, BitVec.ofNat 8 f.payload.length, (if 224 < f.payload.length then 1 else 0)] ++
        f.payload.take 224 := by
  obtain ⟨b0, b1, b2, ln, rest, rfl, hkind, hid, hpayload, hcount, hlength⟩ := fields_of_parseFrame h
  have hlow : ((f.streamId.setWidth 16).extractLsb' 0 8 : Byte) = b2 := by
    rw [← streamId_low_of_bytes b1 b2, ← hid]
    rfl
  rw [be16, hlow, hid, streamId_high_of_bytes, hkind, ← shift_kindByte, hcount, BitVec.ofNat_toNat,
    BitVec.setWidth_eq, hpayload, ← boolByte_isSome, divertedBytes]
  simp [boolByte, Config.divertedPayload]

/-- Settles O51. -/
theorem readLapsesAndReadDivertedRemove : Obligations.ReadLapsesAndReadDivertedRemove := by
  refine ⟨portCodes, kindCodes, highByteFirst, fun s tag hready => ?lapses, fun s tag hready => ?diverted⟩
  case lapses =>
    have row {r : SlotResult} := exec_of_ready (.readLapses tag) .readLapses r hready rfl rfl nofun
    exact ⟨fun hlist hflag => row (slotReadLapses_of_empty hlist hflag) ⟨rfl, rfl, rfl⟩,
      fun h => row (slotReadLapses_of_some h) ⟨rfl, rfl, rfl⟩⟩
  case diverted =>
    have row {r : SlotResult} := exec_of_ready (.readDiverted tag) .readDiverted r hready rfl rfl nofun
    refine ⟨fun hempty => row (r := s.answer .empty) (by rw [runSlot, slotReadDiverted, hempty]) ⟨rfl, rfl, rfl⟩,
      fun d rest f hhead hparse => ?_⟩
    rw [← divertedBytes_of_parseFrame d hparse]
    exact row (r := ⟨.done, divertedBytes d s.contents[d.buf], { s with divert := rest }.release d.buf⟩)
      (by rw [runSlot, slotReadDiverted, hhead]) ⟨rfl, rfl, rfl⟩

/-! ### SET-GATE -/

/-- The setting byte of SET-GATE (R206). -/
theorem gateOf_code (o : Gate) : gateOf (if o = .closed then 1 else 0) = some o := by
  cases o <;> rfl

section
variable {s : State} {g : Fin 8} {o : Gate} {gb ob : Byte}

theorem slotSetGate_of_badArgument (h : 8 ≤ gb.toNat ∨ 1 < ob.toNat) :
    slotSetGate gb ob s = s.answer .badArgument := by
  unfold slotSetGate
  split
  next g o hg ho =>
    have hgroup := (groupOf_isSome gb).1 (by rw [hg]; rfl)
    have hsetting := (gateOf_isSome ob).1 (by rw [ho]; rfl)
    omega
  next => rfl

/-- SET-GATE with arguments in their ranges goes by the group's lock and gate (R32). -/
theorem slotSetGate_of_codes (hg : gb = BitVec.ofNat 8 g.val) (ho : ob = if o = .closed then 1 else 0) :
    slotSetGate gb ob s =
      if s.groupLocks[g] then s.answer .locked
      else if s.gates[g] = o then s.done
      else (s.setGate g o).done := by
  rw [slotSetGate, hg, ho, groupOf_ofNat, gateOf_code]

theorem setGate_frame (s : State) (g : Fin 8) (o : Gate) :
    s.setGate g o = { s with table := (s.setGate g o).table, gates := s.gates.set g o } := by
  unfold State.setGate
  cases o <;> rfl

/-- Closing disarms the counting entries of the group; opening moves none (R31). -/
theorem entry_setGate (s : State) (g : Fin 8) (o : Gate) (i : Byte) :
    (s.setGate g o).entry i =
      (s.entry i).map fun e =>
        if o = .closed ∧ e.group = g ∧ (e.state = .tracking ∨ e.state = .overdue) then
          { e with state := .armed, tracker := e.tracker.map fun k => { k with misses := 0 } }
        else e := by
  cases o with
  | opened => simp [State.setGate, State.entry]
  | closed =>
    refine (entry_disarm s (fun e => e.group == g) i).trans (congrArg (fun f => (s.entry i).map f) ?_)
    funext e
    rw [disarm_eq]
    by_cases hgroup : e.group = g <;> simp [hgroup]

end

/-- Settles O52. -/
theorem setGateMovesItsGroup : Obligations.SetGateMovesItsGroup := by
  refine ⟨fun s tag g o hready hbad => ?_, fun s tag g o gb ob hready hg ho =>
    ⟨fun hlocked => ?_, fun hfree hsame => ?_, fun hfree hother => ?_⟩⟩
  · exact exec_of_ready (.setGate tag g o) (.setGate g o) (s.answer .badArgument) hready rfl rfl nofun
      (slotSetGate_of_badArgument hbad) ⟨rfl, rfl, rfl⟩
  all_goals
    have row {r : SlotResult} := exec_of_ready (.setGate tag gb ob) (.setGate gb ob) r hready rfl rfl nofun
    have hrun : runSlot (.setGate gb ob) s = _ := slotSetGate_of_codes hg ho
  · rw [if_pos hlocked] at hrun
    exact row hrun ⟨rfl, rfl, rfl⟩
  · rw [if_neg (Bool.eq_false_iff.1 hfree), if_pos hsame] at hrun
    exact row hrun ⟨rfl, rfl, rfl⟩
  · rw [if_neg (Bool.eq_false_iff.1 hfree), if_neg hother] at hrun
    refine ⟨s.setGate g o, row hrun ?_, setGate_frame s g o, entry_setGate s g o⟩
    rw [State.done, setGate_frame]
    exact ⟨rfl, rfl, rfl⟩

/-! ### SET-LOCK, SET-IDENT and SEND-LINE-RESET -/

theorem groupOf_eq_none {l : Byte} (h : 8 ≤ l.toNat) : groupOf l = none := dif_neg (Nat.not_lt.2 h)

section
variable {s : State} {l : Byte} {sid : StreamId}

theorem slotSetLock_of_group (s : State) (g : Fin 8) :
    slotSetLock (BitVec.ofNat 8 g.val) s = { s with groupLocks := s.groupLocks.set g true }.done := by
  rw [slotSetLock, groupOf_ofNat]

theorem slotSetLock_of_badArgument (h : 8 < l.toNat) : slotSetLock l s = s.answer .badArgument := by
  rw [slotSetLock, groupOf_eq_none h.le]
  exact if_neg fun h8 => absurd h (by rw [h8]; decide)

theorem slotSetIdent_of_badArgument {id : Word16} (h : 4095 < id.toNat) :
    slotSetIdent id s = s.answer .badArgument := by
  have hnone : streamIdOf id = none := if_neg (Nat.not_le.2 h)
  rw [slotSetIdent, hnone]

theorem slotSetIdent_of_held (h : ∃ i e, s.entry i = some e ∧ e.keyPort = .N ∧ e.streamId = sid) :
    slotSetIdent (sid.setWidth 16) s = s.answer .duplicateKey := by
  rw [slotSetIdent, streamIdOf_setWidth]
  refine if_pos (Option.isSome_iff_ne_none.2 fun hnone => ?_)
  obtain ⟨i, e, he, hkey⟩ := h
  exact (lookup_eq_none_iff s _ _).1 hnone i e he hkey

theorem slotSetIdent_of_free (h : ∀ i e, s.entry i = some e → ¬(e.keyPort = .N ∧ e.streamId = sid)) :
    slotSetIdent (sid.setWidth 16) s = { s with mgmtId := sid }.done := by
  rw [slotSetIdent, streamIdOf_setWidth]
  dsimp only
  rw [(lookup_eq_none_iff s _ _).2 h]
  rfl

/-- SET-IDENT's own response still carries the stream id of its request (R155, R188). -/
theorem exec_setIdent_of_free {tag : Byte} (hready : s.Ready)
    (h : ∀ i e, s.entry i = some e → ¬(e.keyPort = .N ∧ e.streamId = sid)) :
    exec (.setIdent tag (sid.setWidth 16)) s = .next { s.replied tag 0x08 .done 0 [] with mgmtId := sid } := by
  obtain ⟨⟨hrun, hexec, hwait, hplace⟩, hheld⟩ := hready
  refine (next_live hrun _).trans (congrArg _ ?_)
  exact takeCommand_slot s { s with mgmtId := sid } tag (.setIdent (sid.setWidth 16)) .done [] rfl nofun hexec
    (fun h => absurd (hheld.symm.trans h) nofun) (slotSetIdent_of_free h) hexec hwait rfl hplace

theorem slotSendLineReset_of_other {p : Byte} (h : p ≠ 1) : slotSendLineReset p s = s.answer .badArgument := by
  unfold slotSendLineReset
  split
  next hS => exact absurd ((portOf_eq p .S).1 hS).symm h
  next => rfl

end

/-- Settles O53. -/
theorem setLockSetIdentAndLineReset : Obligations.SetLockSetIdentAndLineReset := by
  refine ⟨fun s tag hready => ⟨fun g => ?_, ?_, fun l hl => ?_, fun id hid => ?_, fun sid =>
    ⟨fun hheld => ?_, fun hfree => exec_setIdent_of_free hready hfree⟩⟩, fun s tag hready => ⟨?_, fun p hp => ?_⟩⟩
  · exact exec_of_ready (.setLock tag _) (.setLock _) _ hready rfl rfl nofun (slotSetLock_of_group s g)
      ⟨rfl, rfl, rfl⟩
  · exact exec_of_ready (.setLock tag 8) (.setLock 8) { s with configLock := true }.done hready rfl rfl nofun rfl
      ⟨rfl, rfl, rfl⟩
  · exact exec_of_ready (.setLock tag l) (.setLock l) _ hready rfl rfl nofun (slotSetLock_of_badArgument hl)
      ⟨rfl, rfl, rfl⟩
  · exact exec_of_ready (.setIdent tag id) (.setIdent id) _ hready rfl rfl nofun
      (slotSetIdent_of_badArgument hid) ⟨rfl, rfl, rfl⟩
  · exact exec_of_ready (.setIdent tag _) (.setIdent _) _ hready rfl rfl nofun (slotSetIdent_of_held hheld)
      ⟨rfl, rfl, rfl⟩
  · exact exec_of_ready (.sendLineReset tag 1) (.sendLineReset 1) s.startBreak.done hready rfl rfl nofun rfl
      ⟨rfl, rfl, rfl⟩
  · exact exec_of_ready (.sendLineReset tag p) (.sendLineReset p) _ hready rfl rfl nofun
      (slotSendLineReset_of_other hp) ⟨rfl, rfl, rfl⟩

end Sys2Proof.Machine

/-! PROOF. The bulk load (R166 to R172): where a BULK-LOAD begins, what a LOAD-DATA and the gap timer's expiry
do, and O54 and O55 from them. -/

namespace Sys2Proof.Machine

/-! ### The start of a load phase -/

section
variable {s : State} {start : Word16} {count : Byte} {first n : Nat}

theorem bulkPlan_eq (hfirst : first = if start = 0xFFFF then s.mgmt.nextIndex else start.toNat)
    (hn : n = if start = 0xFFFF then s.mgmt.reload else if count = 0 then 256 else count.toNat) :
    s.bulkPlan start count =
      if (start = 0xFFFF ∨ start.toNat ≤ 255) ∧ first + n ≤ 256 then some (first, n) else none := by
  unfold State.bulkPlan
  by_cases hcont : start = 0xFFFF
  · rw [if_pos hcont] at hfirst hn
    simp [hcont, hfirst, hn]
  · rw [if_neg hcont] at hfirst hn
    have hcount : bulkCount count = n := hn.symm
    have hcont' : ¬start = 65535#16 := hcont
    simp [hcont', hfirst, hcount]

theorem runBulkLoad_of_refused (req : Request) (hplan : s.bulkPlan start count = none) :
    s.runBulkLoad req start count = s.finish (req.reply .badArgument 0 []) := by
  rw [State.runBulkLoad, hplan]

theorem runBulkLoad_of_started (req : Request) (hplan : s.bulkPlan start count = some (first, n)) :
    s.runBulkLoad req start count = s.startLoad req first n := by
  rw [State.runBulkLoad, hplan]

/-- A BULK-LOAD at a ready management unit executes at its arrival (R152). -/
theorem exec_bulkLoad (tag : Byte) (hready : s.Ready) :
    exec (.bulkLoad tag start count) s =
      .next (s.runBulkLoad ⟨s.mgmtId, tag, .bulkLoad start count⟩ start count).moveUp := by
  obtain ⟨⟨hrun, hexec, _, _⟩, hheld⟩ := hready
  obtain ⟨hempty, _⟩ := admitSlot_of_admitted (req := ⟨s.mgmtId, tag, .bulkLoad start count⟩)
    fun h => absurd (hheld.symm.trans h) nofun
  rw [exec_request (row := .bulkLoad tag start count) rfl hrun, takeRequest_slot s rfl, hempty hexec,
    State.execute]

end

/-- Settles O54. -/
theorem bulkLoadEntersItsLoadPhase : Obligations.BulkLoadEntersItsLoadPhase := by
  intro s tag start count hready first n hfirst hn
  have hplan := bulkPlan_eq hfirst hn
  refine ⟨fun hbad => ?_, fun hstart hfits => ?_⟩
  · obtain ⟨⟨_, hexec, hwait, hplace⟩, _⟩ := id hready
    have hno : ¬((start = 0xFFFF ∨ start.toNat ≤ 255) ∧ first + n ≤ 256) := by
      rintro ⟨hcont | hindex, hfits⟩
      · rcases hbad with ⟨hne, _⟩ | hover
        · exact hne hcont
        · exact absurd hfits (Nat.not_le.2 hover)
      · omega
    rw [if_neg hno] at hplan
    rw [exec_bulkLoad tag hready, runBulkLoad_of_refused _ hplan, finish_moveUp_idle s _ hexec hwait hplace]
    rfl
  · rw [if_pos ⟨hstart, hfits⟩] at hplan
    rw [exec_bulkLoad tag hready, runBulkLoad_of_started _ hplan, moveUp_of_executing _ (Option.some_ne_none _)]
    rfl

/-! ### LOAD-DATA in the load phase -/

section
variable {s : State} {bulk req : Request} {r : EntryRecord}

theorem closeLoad_eq_completed (s : State) (bulk : Request) (st : Status) :
    s.closeLoad bulk st = (s.endLoad st).completed (bulk.reply st s.mgmt.step []) :=
  complete_eq_completed _ _

theorem admitLoadData_of_loading (hexec : s.mgmt.executing = some (.loading bulk)) :
    s.admitLoadData req r = s.takeLoadData bulk req r := by
  rw [State.admitLoadData, hexec]

theorem takeLoadData_of_full (hfull : 8 ≤ s.responses.length) : s.takeLoadData bulk req r = s.unanswered := by
  rw [State.takeLoadData, hasPlace_of_full s hfull]
  rfl

/-- A refused record ends the load, its own refusal placed first (R169). -/
theorem takeLoadData_of_refused {st : Status} (hplace : s.responses.length < 8)
    (hcheck : s.checkWrite (BitVec.ofNat 8 s.mgmt.nextIndex) r = .error st) :
    s.takeLoadData bulk req r = (s.respondNow (req.reply st s.mgmt.step [])).closeLoad bulk st := by
  rw [State.takeLoadData, (hasPlace_iff s).2 hplace]
  dsimp only
  rw [hcheck]
  rfl

/-- A record that passes its checks is written and answered LOADED, and the last one ends the load (R168,
R170). -/
theorem takeLoadData_of_written {e : Entry} (hplace : s.responses.length < 8)
    (hcheck : s.checkWrite (BitVec.ofNat 8 s.mgmt.nextIndex) r = .ok e) :
    s.takeLoadData bulk req r =
      if s.mgmt.remaining - 1 = 0 then
        ((s.setEntry (BitVec.ofNat 8 s.mgmt.nextIndex) (some e)).advanceLoad.respondNow
          (req.reply .loaded (s.mgmt.step + 1) [])).closeLoad bulk .done
      else
        (s.setEntry (BitVec.ofNat 8 s.mgmt.nextIndex) (some e)).advanceLoad.respondNow
          (req.reply .loaded (s.mgmt.step + 1) []) := by
  rw [State.takeLoadData, (hasPlace_iff s).2 hplace]
  dsimp only
  rw [hcheck]
  rfl

/-! ### The gap timer -/

theorem takeGapExpiry_of_running (hexec : s.mgmt.executing = some (.loading bulk)) (hgap : s.mgmt.gapTimer = true) :
    s.takeGapExpiry = s.closeLoad bulk .timeout := by
  rw [State.takeGapExpiry, hexec]
  exact if_pos hgap

theorem takeGapExpiry_of_idle (h : s.mgmt.gapTimer = false ∨ s.mgmt.NotLoading) : s.takeGapExpiry = s := by
  unfold State.takeGapExpiry
  split
  next bulk hexec =>
    rcases h with hgap | hno
    · exact if_neg (Bool.eq_false_iff.1 hgap)
    · exact absurd hexec (hno bulk)
  next => rfl

end

/-- Settles O55. -/
theorem loadDataWritesTheNextEntry : Obligations.LoadDataWritesTheNextEntry := by
  refine ⟨fun s tag r bulk i hrun hexec hi => ?_, fun s hrun =>
    ⟨fun bulk hexec hgap => ?expiry, fun hidle => ?noExpiry⟩⟩
  · subst hi
    rw [exec_loadData tag r hrun, admitLoadData_of_loading hexec]
    have hloaded (e : Entry) (x : Response) (hplace : s.responses.length < 8) :=
      respondNow_of_place (s.setEntry (BitVec.ofNat 8 s.mgmt.nextIndex) (some e)).advanceLoad x hplace
    refine ⟨fun hfull => ?_, fun e hplace hcheck => ⟨fun hmore => ?_, fun hlast => ?_⟩, fun st hplace hcheck => ?_⟩
    · rw [takeLoadData_of_full hfull]
      rfl
    · rw [takeLoadData_of_written hplace hcheck, if_neg (by omega), hloaded e _ hplace]
      rfl
    · rw [takeLoadData_of_written hplace hcheck, if_pos (by omega), hloaded e _ hplace,
        closeLoad_eq_completed]
      rfl
    · rw [takeLoadData_of_refused hplace hcheck, respondNow_of_place _ _ hplace, closeLoad_eq_completed]
      rfl
  case expiry =>
    refine (next_live hrun State.takeGapExpiry).trans ?_
    rw [takeGapExpiry_of_running hexec hgap, closeLoad_eq_completed]
    rfl
  case noExpiry => exact (next_live hrun State.takeGapExpiry).trans (congrArg _ (takeGapExpiry_of_idle hidle))

end Sys2Proof.Machine

/-! PROOF. ABORT, RESET-WARM and ESCALATION (R154, R158, R160, R164): what answering several requests at once
leaves, and O56 and O57 from it. -/

namespace Sys2Proof.Machine

/-! ### Answers given one after the other -/

section
variable {s : State}

theorem respondNow_counted (s : State) (rs : List Response) (m : Mgmt) (r : Response) :
    ({ s with responses := s.placedAtOnce rs, mgmt := m } : State).respondNow r =
      { s with
        responses := s.placedAtOnce (rs ++ [r])
        mgmt :=
          { m with
            unanswered :=
              if s.responses.length + rs.length < 8 then m.unanswered else satInc m.unanswered } } := by
  split
  next hplace =>
    have hall : s.placedAtOnce rs = s.responses ++ rs := by
      rw [State.placedAtOnce, List.take_of_length_le (by omega)]
    have hnext : s.placedAtOnce (rs ++ [r]) = s.responses ++ rs ++ [r] := by
      rw [State.placedAtOnce, List.take_of_length_le (by rw [List.length_append, List.length_singleton]; omega),
        List.append_assoc]
    rw [respondNow_of_place _ _ (by simpa [hall] using hplace), hall, hnext]
  next hfull =>
    have hnext : s.placedAtOnce (rs ++ [r]) = s.placedAtOnce rs := by
      rw [State.placedAtOnce, List.take_append_of_le_length (by omega), State.placedAtOnce]
    have hlength : 8 ≤ (s.placedAtOnce rs).length := by
      simp only [State.placedAtOnce, List.length_append, List.length_take]
      omega
    rw [respondNow_of_full _ _ hlength, hnext]
    rfl

/-- Of several answers those behind the eighth response are counted unanswered (R154). -/
theorem foldl_respondNow (s : State) (xs : List Response) : ∀ (rs : List Response) (m : Mgmt),
    xs.foldl State.respondNow { s with responses := s.placedAtOnce rs, mgmt := m } =
      { s with
        responses := s.placedAtOnce (rs ++ xs)
        mgmt :=
          { m with
            unanswered :=
              Nat.iterate satInc (xs.length - (8 - (s.responses.length + rs.length))) m.unanswered } } := by
  induction xs with
  | nil => intro rs m; simp
  | cons r xs ih =>
    intro rs m
    rw [List.foldl_cons, respondNow_counted, ih, List.append_assoc, List.singleton_append, List.length_append,
      List.length_singleton, List.length_cons]
    split
    next hplace =>
      rw [show xs.length + 1 - (8 - (s.responses.length + rs.length)) =
        xs.length - (8 - (s.responses.length + (rs.length + 1))) by omega]
    next hfull =>
      rw [show xs.length + 1 - (8 - (s.responses.length + rs.length)) =
        xs.length - (8 - (s.responses.length + (rs.length + 1))) + 1 by omega]
      rfl

/-! ### ABORT -/

/-- The waiting slot emptied and answered (R158 step 2). -/
theorem abortWaiting_eq (s : State) :
    s.abortWaiting =
      s.abortedWaiting.foldl State.respondNow { s with mgmt := { s.mgmt with waiting := none } } := by
  unfold State.abortWaiting State.abortedWaiting
  cases hwait : s.mgmt.waiting with
  | none =>
    have hsame : { s.mgmt with waiting := none } = s.mgmt := by rw [← hwait]
    rw [hsame]
    rfl
  | some req => rfl

theorem takeAbort_eq (s : State) (req : Request) :
    s.takeAbort req =
      (s.abortExecuting.abortedWaiting ++ [req.reply .done 0 []]).foldl State.respondNow
        { s.abortExecuting with mgmt := { s.abortExecuting.mgmt with waiting := none } } := by
  rw [State.takeAbort, abortWaiting_eq, List.foldl_append]
  rfl

/-- A bulk load ends ABORTED, its response placed or waiting in the slot (R153, R158 step 1). -/
theorem abortExecuting_of_loading {bulk : Request} (hexec : s.mgmt.executing = some (.loading bulk)) :
    s.abortExecuting =
      { s with
        responses := s.placedAtOnce [bulk.reply .aborted s.mgmt.step []]
        mgmt :=
          { s.mgmt with
            executing :=
              if 8 ≤ s.responses.length then some (.built (bulk.reply .aborted s.mgmt.step [])) else none
            remaining := 0
            gapTimer := false
            lastLoad := some ⟨.aborted, s.mgmt.step, s.mgmt.nextIndex⟩ } } := by
  rw [State.abortExecuting, hexec, State.placedAtOnce]
  dsimp only
  split
  next hfull =>
    rw [finish_of_full (s.endLoad .aborted) _ hfull, Nat.sub_eq_zero_of_le hfull, List.take_zero, List.append_nil]
    rfl
  next hplace =>
    have hplace := Nat.not_le.1 hplace
    rw [finish_of_place (s.endLoad .aborted) _ hplace, List.take_of_length_le (by rw [List.length_singleton]; omega)]
    rfl

theorem abortExecuting_of_notLoading (hexec : s.mgmt.NotLoading) : s.abortExecuting = s := by
  unfold State.abortExecuting
  split
  next bulk h => exact absurd h (hexec bulk)
  next => rfl

end

/-- Settles O56. -/
theorem abortAnswersTheSlots : Obligations.AbortAnswersTheSlots := by
  intro s tag hrun
  have hexec : exec (.abort tag) s = .next (s.takeAbort ⟨s.mgmtId, tag, .abort⟩) := next_live hrun _
  refine ⟨fun bulk hload => ?_, fun hno => ?_⟩
  · rw [hexec, takeAbort_eq, abortExecuting_of_loading hload]
    refine congrArg _ ((foldl_respondNow s _ [bulk.reply .aborted s.mgmt.step []] _).trans ?_)
    rw [List.append_assoc, List.length_append, List.length_singleton]
    rfl
  · rw [hexec, takeAbort_eq, abortExecuting_of_notLoading hno]
    have hplaced := foldl_respondNow s (s.abortedWaiting ++ [⟨s.mgmtId, tag, 0x30, .done, 0, []⟩]) []
      { s.mgmt with waiting := none }
    rw [placedAtOnce_nil, List.nil_append, List.length_append, List.length_singleton] at hplaced
    exact congrArg _ hplaced

/-! ### RESET-WARM and ESCALATION -/

/-- Answering the slots before a warm reset changes the response queue alone (R160, R202). -/
theorem warmReset_abortSlots (s : State) :
    s.abortSlots.warmReset = ({ s with responses := s.placedAtOnce s.abortedSlots } : State).warmReset := by
  obtain ⟨m, habort, _, _, htime, hescalated, hlinks⟩ := abortSlots_answers s
  rw [habort]
  exact warmReset_mgmt { s with responses := s.placedAtOnce s.abortedSlots } m htime hescalated hlinks

theorem warmReset_abortSlots_respondNow (s : State) (r : Response) :
    (s.abortSlots.respondNow r).warmReset =
      ({ s with responses := s.placedAtOnce (s.abortedSlots ++ [r]) } : State).warmReset := by
  obtain ⟨m, habort, _, _, htime, hescalated, hlinks⟩ := abortSlots_answers s
  rw [habort, respondNow_counted]
  exact warmReset_mgmt { s with responses := s.placedAtOnce (s.abortedSlots ++ [r]) } _ htime hescalated hlinks

/-- Settles O57. -/
theorem resetWarmAndEscalationAnswerThenReset : Obligations.ResetWarmAndEscalationAnswerThenReset := by
  refine ⟨fun s tag hrun => ?reset, fun s hrun => ⟨fun hstopped => ?stopped, fun hrunning => ?escalates⟩,
    fun s => ⟨warmReset_responses s, ?flag⟩⟩
  case reset =>
    exact (next_live hrun _).trans (congrArg _ (warmReset_abortSlots_respondNow s _))
  case stopped =>
    refine (next_live hrun State.takeEscalation).trans (congrArg _ (if_neg ?_))
    rw [hstopped]
    nofun
  case escalates =>
    refine (next_live hrun State.takeEscalation).trans (congrArg _ ?_)
    refine (if_pos (Option.isSome_iff_ne_none.2 hrunning)).trans ((warmReset_abortSlots _).trans ?_)
    exact warmReset_mgmt
      ({ s with
        responses := s.placedAtOnce s.abortedSlots
        mgmt := { s.mgmt with escalated := true } } : State) _ rfl rfl rfl
  case flag =>
    rw [warmReset_frame]
    rfl

end Sys2Proof.Machine

/-! PROOF. What the warm reset leaves (R202): the ALERT of an asserted freeze input, the entries by their
group's lock, and O58 from them. -/

namespace Sys2Proof.Machine

/-! ### The ALERT of an asserted freeze input -/

/-- After the blocks' resets nothing is pending, so FROZEN alone can raise an ALERT (R193, R197). -/
theorem anyActive_of_warmBlocks (s : State) (m : RunMode) :
    ({ s.warmBlocks with mode := m } : State).anyActive = false ∧
      ({ s.warmBlocks with mode := m, causes := ⟨false, true, false, false⟩ } : State).anyActive =
        s.warmBlocks.enables.frozen := by
  constructor <;> simp [State.anyActive, State.pendingCauses, State.warmBlocks, HeldCauses.clear]

theorem warmReset_of_frozen {s : State} (hlow : s.freezeLow = true)
    (henabled : s.warmBlocks.enables.frozen = true) :
    s.warmReset =
      { s.warmBlocks with
        mode := .halted .freeze
        causes := ⟨false, true, false, false⟩
        alertNumber := 1
        alertSlot := some ⟨s.mgmtId, 1, 2, ⟨false, true, false, false, false, false⟩⟩ } := by
  obtain ⟨hbefore, hafter⟩ := anyActive_of_warmBlocks s (.halted .freeze)
  exact (if_pos hlow).trans (alerting_of_rise hbefore (hafter.trans henabled) rfl)

theorem warmReset_of_silent {s : State} (hlow : s.freezeLow = true)
    (hmasked : s.warmBlocks.enables.frozen = false) :
    s.warmReset =
      { s.warmBlocks with mode := .halted .freeze, causes := ⟨false, true, false, false⟩ } := by
  obtain ⟨_, hafter⟩ := anyActive_of_warmBlocks s (.halted .freeze)
  exact (if_pos hlow).trans (alerting_of_not_active _ _ (hafter.trans hmasked))

theorem warmReset_of_high {s : State} (hhigh : s.freezeLow = false) : s.warmReset = s.warmBlocks :=
  if_neg (Bool.eq_false_iff.1 hhigh)

theorem warmReset_enables (s : State) :
    s.warmReset.enables = if s.configLock then s.enables else ⟨true, true, false, false, false, false⟩ := by
  rw [warmReset_frame]
  rfl

theorem warmReset_alert (s : State) :
    s.warmReset.alertSlot =
        (if s.freezeLow && s.warmReset.enables.frozen then
          some ⟨s.mgmtId, 1, 2, ⟨false, true, false, false, false, false⟩⟩
        else none) ∧
      s.warmReset.alertNumber = if s.freezeLow && s.warmReset.enables.frozen then 1 else 0 := by
  have henables : s.warmReset.enables = s.warmBlocks.enables := warmReset_enables s
  rw [henables]
  cases hlow : s.freezeLow with
  | false =>
    rw [warmReset_of_high hlow]
    exact ⟨rfl, rfl⟩
  | true =>
    cases henabled : s.warmBlocks.enables.frozen with
    | true =>
      rw [warmReset_of_frozen hlow henabled]
      exact ⟨rfl, rfl⟩
    | false =>
      rw [warmReset_of_silent hlow henabled]
      exact ⟨rfl, rfl⟩

/-! ### The other fields -/

theorem warmReset_fields (s : State) :
    s.warmReset =
      { s with
        mode := if s.freezeLow then .halted .freeze else .bypass
        portN := s.warmReset.portN
        portS := s.warmReset.portS
        table := s.warmReset.table
        gates := s.warmReset.gates
        lapseList := []
        lapseOverflow := false
        free := allBuffers
        divert := []
        alertSlot :=
          if s.freezeLow && s.warmReset.enables.frozen then
            some ⟨s.mgmtId, 1, 2, ⟨false, true, false, false, false, false⟩⟩
          else none
        mgmt :=
          ⟨none, none, 0, 0, 256, 0, none, false, false, if s.configLock then s.mgmt.escTime else 0, none,
            s.mgmt.escalated, 0, s.mgmt.linkEvents⟩
        causes := ⟨false, s.freezeLow, false, false⟩
        enables := if s.configLock then s.enables else ⟨true, true, false, false, false, false⟩
        alertNumber := if s.freezeLow && s.warmReset.enables.frozen then 1 else 0 } := by
  obtain ⟨hslot, hnumber⟩ := warmReset_alert s
  rw [← hslot, ← hnumber, ← warmReset_mode, ← warmReset_causes, ← warmReset_enables]
  conv_lhs => rw [warmReset_frame]
  rw [warmReset_frame]
  rfl

theorem warmReset_gate (s : State) (g : Fin 8) :
    s.warmReset.gates[g] = if s.groupLocks[g] then s.gates[g] else .opened := by
  have hgates : s.warmReset.gates = warmGates s.gates s.groupLocks := by
    rw [warmReset_frame]
    rfl
  rw [hgates]
  simp [warmGates]

section
variable {e : Entry} {locks : Vector Bool 8}

theorem warmEntry_of_free (h : locks[e.group] = false) : warmEntry locks (some e) = none :=
  if_neg (Bool.eq_false_iff.1 h)

theorem warmEntry_of_suspended (h : locks[e.group] = true) (hst : e.state = .suspended) :
    warmEntry locks (some e) = some { e with counters := ⟨0, 0, 0, 0, 0, 0, 0⟩ } := by
  refine (if_pos h).trans ?_
  rw [Entry.warmKept, active_of_eq_suspended hst]
  rfl

theorem warmEntry_of_active (h : locks[e.group] = true) (hst : e.state ≠ .suspended) :
    warmEntry locks (some e) =
      some { e with
        state := .armed
        expSeq := none
        tracker := e.tracker.map Tracker.arm
        counters := ⟨0, 0, 0, 0, 0, 0, 0⟩ } := by
  refine (if_pos h).trans ?_
  rw [Entry.warmKept, active_of_ne_suspended hst]
  rfl

end

/-- Settles O58. -/
theorem warmResetLeavesTheWarmValues : Obligations.WarmResetLeavesTheWarmValues := by
  intro s t ht
  subst ht
  refine ⟨warmReset_fields s, fun i hi => ?_, fun i e he => ⟨fun hfree => ?_, fun hlocked hst => ?_,
    fun hlocked hst => ?_⟩, warmReset_gate s, fun p => ?_⟩
  · rw [entry_warmReset, hi]
    rfl
  · rw [entry_warmReset, he, warmEntry_of_free hfree]
  · rw [entry_warmReset, he, warmEntry_of_suspended hlocked hst]
  · rw [entry_warmReset, he, warmEntry_of_active hlocked hst]
  · rw [warmReset_port, PortState.warm, Receiver.warm.eq_def]
    rfl

end Sys2Proof.Machine
